-- ==== Sys2Proof/Word.lean ====
section
/-! DEFINITION. The two widths the block moves (20_memory.md R69): bytes on the link, 16-bit unsigned values in a
register frame and in the CRC register. -/

namespace Sys2Proof

/-- 8 bits (00_scope.md R6). -/
abbrev Byte := BitVec 8

/-- An unsigned 16-bit value, `u16` of 00_scope.md R6. -/
abbrev U16 := BitVec 16

end Sys2Proof
end

