-- ==== Sys2Proof/Config.lean ====
section
/-! DEFINITION. What an implementation fixes: the number type of the sample pipeline (44_sample_pipeline.md R270), the
configuration record (00_scope.md R8, 10_state.md R40, R41), and the free values of the model. -/

namespace Sys2Proof

/-- The number type `Num` of R270, a parameter of the block. `rational` holds the default of R270 (the rationals);
`coded` holds an element of any other number type (a float format, a fixed-point format) by its code (log 7). -/
inductive Num where
  | rational (q : Rat)
  | coded (n : Nat)
deriving DecidableEq, Repr, Inhabited

/-- The numerics record of R270. `exact` is its default: exact rationals with two constant factors. `other id` is any
other record: its four functions are the free functions below, of which nothing is known (log 7). -/
inductive Numerics where
  | exact (scaleV scaleI : Rat)
  | other (id : Nat)
deriving DecidableEq, Repr, Inhabited

/-- `scale_v` of a numerics record that is not `exact` (R270: any total function). Free (log 7). -/
opaque Config.scaleV : Numerics → U16 → Num
/-- `scale_i` of a numerics record that is not `exact` (R270). Free (log 7). -/
opaque Config.scaleI : Numerics → U16 → Num
/-- `mul` outside exact rationals (R270). Free (log 7). -/
opaque Config.mul : Numerics → Num → Num → Num
/-- `ge` outside exact rationals (R270). Free (log 7). -/
opaque Config.ge : Numerics → Num → Num → Bool

/-- Which agent goes first when both can act in the tick with this number and `env.orderNext` says nothing: R361 allows
both orders, so the choice is free (log 9). -/
opaque Config.uiFirst : Nat → Bool

/-- The level of port `mode_index` while `mode_tag` is 2, at the tick with this number: R20 and R327 give it no value,
so it is free (log 8). -/
opaque Config.modeIndexInSensor : Nat → Nat

/-- `PARITY` (R8, R40). -/
inductive Parity where
  | none | even | odd
deriving DecidableEq, Repr, Inhabited

/-- What `pinmap` says of a pin (10_state.md R41). -/
inductive PinUse where
  | unmapped
  | media (i : Nat)
  | sensor
deriving DecidableEq, Repr, Inhabited

/-- The configuration record: every parameter of 00_scope.md R8 (10_state.md R40, R41), constants that no rule writes.
Derived parameters (R10) and well-formedness (R13) are in Machine/Params.lean. -/
structure Cfg where
  /-- `cfg.port_id`: opaque, no rule reads it. -/
  portId : Nat
  /-- `BIT_TICKS` -/
  bitTicks : Nat
  /-- `PARITY` -/
  parity : Parity
  /-- `STOPBITS` -/
  stopBits : Nat
  /-- `BYTESIZE` -/
  byteSize : Nat
  /-- `SLAVE_ID` -/
  slaveId : Byte
  /-- `START_REG` -/
  startReg : U16
  /-- `COUNT` -/
  count : Nat
  /-- `MAX_COUNT` -/
  maxCount : Nat
  /-- `V_IDX` -/
  vIdx : Nat
  /-- `I_IDX` -/
  iIdx : Nat
  /-- `scale_v`, `scale_i`, `mul`, `ge` -/
  numerics : Numerics
  /-- `THRESHOLD` -/
  threshold : Num
  /-- `POLL_INTERVAL_TICKS` -/
  pollInterval : Nat
  /-- `RESP_TIMEOUT_TICKS` -/
  respTimeout : Nat
  /-- `RETRY_COUNT` -/
  retryCount : Nat
  /-- `BACKOFF_TICKS` -/
  backoff : Nat
  /-- `TURNAROUND_TICKS` -/
  turnaround : Nat
  /-- `DIR_TX_LEVEL` -/
  dirTxLevel : Bool
  /-- `UI_TICK_TICKS` -/
  uiTickTicks : Nat
  /-- `NPIN` -/
  nPin : Nat
  /-- `pinmap`, pin 0 first -/
  pinmap : List PinUse
  /-- `N_MEDIA` -/
  nMedia : Nat
  /-- `DEBOUNCE_N` -/
  debounceN : Nat
  /-- `BLINK_N` -/
  blinkN : Nat
  /-- `STARTUP_N` -/
  startupN : Nat
  /-- `BLINK_IDLE` -/
  blinkIdle : Bool
deriving DecidableEq, Repr, Inhabited

/-- The "vector default" column of R8. `portId` and `uiTickTicks` have no entry there: DESIGN CHOICE 0 and 10 (log 5). -/
def Cfg.vectorDefault : Cfg where
  portId := 0
  bitTicks := 1
  parity := .even
  stopBits := 1
  byteSize := 8
  slaveId := 1
  startReg := 0
  count := 2
  maxCount := 125
  vIdx := 0
  iIdx := 1
  numerics := .exact (1 / 10) (1 / 100)
  threshold := .rational 1
  pollInterval := 5000
  respTimeout := 1000
  retryCount := 2
  backoff := 100
  turnaround := 0
  dirTxLevel := true
  uiTickTicks := 10
  nPin := 4
  pinmap := [.media 0, .media 1, .media 2, .sensor]
  nMedia := 3
  debounceN := 3
  blinkN := 2
  startupN := 4
  blinkIdle := true

end Sys2Proof
end

