-- ==== Sys2Proof/Syntax.lean ====
section
/-! DEFINITION. The rows of spec/opcode_table.json as one inductive, `Instr` (30_encoding.md R106, R110, R111), and the
words in which they are presented to the block. -/

namespace Sys2Proof

/-- A Measurement (00_scope.md R12). -/
structure Measurement where
  voltage : Num
  current : Num
  power : Num
  timestamp : BitVec 64
deriving DecidableEq, Repr, Inhabited

/-- The character layouts of R111: `P` is even or odd parity. -/
inductive CharFormat where
  | n1 | p1 | n2 | p2
deriving DecidableEq, Repr, Inhabited

/-- Where SP.CONVERT takes its frame from. R271 gives the operand `f` one form: "`f` (= `regframe`, with
`regframe_valid = 1`)". -/
inductive FrameRef where
  | regframe
deriving DecidableEq, Repr, Inhabited

/-- One constructor per row of spec/opcode_table.json: 28 operations (R106) and 7 wire-format rows (R92, R93, R94, R96).
An operation carries the operands of R106, a wire-format row the fields of its layout. -/
inductive Instr where
  /-- `RESET` (R400) -/
  | reset
  /-- `CRC.INIT` (R132) -/
  | crcInit
  /-- `CRC.BIT b` (R133) -/
  | crcBit (b : Bool)
  /-- `CRC.UPD d` (R134) -/
  | crcUpd (d : Byte)
  /-- `CRC.GET` (R135) -/
  | crcGet
  /-- `CRC.CHK lo, hi` (R136) -/
  | crcChk (lo hi : Byte)
  /-- `ENC.RDREQ s, a, n` (R160) -/
  | encRdreq (slave : Byte) (start count : U16)
  /-- `DEC.RESP buf, s, n` (R165) -/
  | decResp (buf : List Byte) (slave : Byte) (count : U16)
  /-- `TR.TRANSACT req, m` (R190) -/
  | trTransact (request : List Byte) (m : Nat)
  /-- `TR.GAP` (R193) -/
  | trGap
  /-- `TR.TXEN` (R194) -/
  | trTxen
  /-- `TR.WRITE` (R195) -/
  | trWrite
  /-- `TR.FLUSH` (R196) -/
  | trFlush
  /-- `TR.RXEN` (R197, R198) -/
  | trRxen
  /-- `TR.READ` (R199) -/
  | trRead
  /-- `UART.TXCHAR d` (R200) -/
  | uartTxchar (d : Byte)
  /-- `UART.RXCHAR` (R201) -/
  | uartRxchar
  /-- `MST.POLL s, a, n` (R240) -/
  | mstPoll (slave : Byte) (start count : U16)
  /-- `MST.CYCLE` (R248) -/
  | mstCycle
  /-- `SP.CONVERT f` (R271) -/
  | spConvert (f : FrameRef)
  /-- `SP.PUBLISH m, alert` (R276) -/
  | spPublish (m : Measurement) (alert : Bool)
  /-- `DB.SAMPLE p, r` (R292) -/
  | dbSample (p : Nat) (r : Bool)
  /-- `UI.TICK raw` (R310) -/
  | uiTick (raw : List Bool)
  /-- `DSM.TICK` (R314, R315) -/
  | dsmTick
  /-- `DSM.BTN_MEDIA i` (R316) -/
  | dsmBtnMedia (index : Nat)
  /-- `DSM.BTN_SENSOR` (R318) -/
  | dsmBtnSensor
  /-- `DSM.MEAS` (R322) -/
  | dsmMeas
  /-- `BLK.TICK a` (R323 to R325) -/
  | blkTick (a : Bool)
  /-- format `REQ` (R92): slave, start register, count, CRC low and high byte; the function byte is 0x03 -/
  | req (slave : Byte) (start count : U16) (crcLo crcHi : Byte)
  /-- format `RSP` (R93): slave, low seven bits of the function byte, registers, CRC; the byte count is 2 × registers -/
  | rsp (slave : Byte) (func : BitVec 7) (regs : List U16) (crcLo crcHi : Byte)
  /-- format `EXC` (R94): slave, low seven bits of the function byte, exception code, CRC -/
  | exc (slave : Byte) (func : BitVec 7) (code crcLo crcHi : Byte)
  /-- format `CHAR`, no parity, one stop bit (R96) -/
  | char8N1 (d : Byte)
  /-- format `CHAR`, parity bit `p`, one stop bit (R96) -/
  | char8P1 (d : Byte) (p : Bool)
  /-- format `CHAR`, no parity, two stop bits (R96) -/
  | char8N2 (d : Byte)
  /-- format `CHAR`, parity bit `p`, two stop bits (R96) -/
  | char8P2 (d : Byte) (p : Bool)
deriving DecidableEq, Repr

/-- A word presented to the block (log 1). The formats travel in different places (R90), so a word says which it is: an
operation (identifier byte, then operand bytes, log 2), a frame (its bytes, byte 0 first, R91), or a character (its
levels in time order, R96, with the layout in use, which the line itself does not show). -/
inductive StreamWord where
  | op (bytes : List Byte)
  | frame (bytes : List Byte)
  | char (format : CharFormat) (levels : List Bool)
deriving DecidableEq, Repr

/-- Why a presented word is no instruction. -/
inductive DecodeError where
  /-- an operation word with no identifier byte -/
  | emptyWord
  /-- an identifier that R110 leaves unassigned: "names no operation" -/
  | unassignedOp (id : Byte)
  /-- non-zero bytes after the last operand -/
  | trailingBytes
  /-- an operand byte outside the operand's range (log 2) -/
  | badOperand
  /-- a frame of a length no format has (R105) -/
  | badFrameLength
  /-- a frame whose function byte fits no format of its length (R92, R93, R94) -/
  | badFunction
  /-- a byte count other than 2 × count (R93) -/
  | badByteCount
  /-- a character of another number of bits than its layout has (R96) -/
  | badCharLength
  /-- a start bit of 1 (R96) -/
  | badStartBit
  /-- a stop bit of 0 (R96) -/
  | badStopBit
deriving DecidableEq, Repr

end Sys2Proof
end

