-- ==== Sys2Proof/WellFormed.lean ====
section
/-! DEFINITION. Which instructions are well formed: the operand ranges of R106 and the format lengths of R105. What
depends on the configuration (a media index below `N_MEDIA`, a valid poll triple) is checked where the instruction runs. -/

namespace Sys2Proof

/-- A number that an operand word can carry (log 2). -/
def Num.wf : Num → Bool
  | .rational q => decide (-(2 : Int) ^ 63 ≤ q.num) && decide (q.num < (2 : Int) ^ 63) && decide (q.den ≤ 2 ^ 64)
  | .coded n => decide (n < 2 ^ 128)

/-- A Measurement whose three quantities an operand word can carry. -/
def Measurement.wf (m : Measurement) : Bool := m.voltage.wf && m.current.wf && m.power.wf

/-- Operand ranges: a buffer of 0..255 bytes (R165, R23), a request of 8 bytes (R190), `m` in 5..255 (R25), 1..125
registers in a normal response (R105). The other bounds are those of the operand bytes (log 2). -/
def Instr.wf : Instr → Bool
  | .decResp buf _ _ => decide (buf.length ≤ 255)
  | .trTransact request m => decide (request.length = 8) && decide (5 ≤ m) && decide (m ≤ 255)
  | .spPublish m _ => m.wf
  | .dbSample p _ => decide (p < 65536)
  | .uiTick raw => decide (raw.length ≤ 255)
  | .dsmBtnMedia i => decide (i < 65536)
  | .rsp _ _ regs _ _ => decide (1 ≤ regs.length) && decide (regs.length ≤ 125)
  | .reset | .crcInit | .crcBit _ | .crcUpd _ | .crcGet | .crcChk _ _ | .encRdreq _ _ _ | .trGap | .trTxen | .trWrite
  | .trFlush | .trRxen | .trRead | .uartTxchar _ | .uartRxchar | .mstPoll _ _ _ | .mstCycle | .spConvert _ | .dsmTick | .dsmBtnSensor
  | .dsmMeas | .blkTick _ | .req _ _ _ _ _ | .exc _ _ _ _ _ | .char8N1 _ | .char8P1 _ _ | .char8N2 _ | .char8P2 _ _ => true

end Sys2Proof
end

