-- ==== Sys2Proof/Decode.lean ====
section
/-! DEFINITION. The byte-order helpers, the decoder of presented words (total, rejecting by name) and the encoder
(30_encoding.md R90 to R99, R110, R111). -/

namespace Sys2Proof

/-! ### Field assembly -/

/-- `v[15:8]` -/
def hiByte (v : U16) : Byte := v.extractLsb' 8 8

/-- `v[7:0]` -/
def loByte (v : U16) : Byte := v.extractLsb' 0 8

/-- `{h, l}`: a 16-bit field, high byte first (R97). -/
def beU16 (h l : Byte) : U16 := h ++ l

/-- `{b[n-1], b[n-2]}`: the CRC a frame carries, low byte first (R98). -/
def leU16 (l h : Byte) : U16 := h ++ l

/-- Register values as they stand in a frame: each high byte first (R93). -/
def regBytes (regs : List U16) : List Byte := regs.flatMap fun r => [hiByte r, loByte r]

/-- The 16-bit values in a byte sequence, high byte first (R97, R172). -/
def pairRegs : List Byte → List U16
  | h :: l :: rest => beU16 h l :: pairRegs rest
  | _ => []

/-- The `k`-byte representation of `n`, most significant byte first. -/
def beBytes : Nat → Nat → List Byte
  | 0, _ => []
  | k + 1, n => BitVec.ofNat 8 (n / 256 ^ k) :: beBytes k n

/-- The number a byte sequence stands for, most significant byte first. -/
def beNat (bs : List Byte) : Nat := bs.foldl (fun acc b => acc * 256 + b.toNat) 0

/-! ### Frames (R92, R93, R94) -/

/-- The first six bytes of a `REQ` (R92): what its CRC covers. -/
def reqBody (slave : Byte) (start count : U16) : List Byte :=
  [slave, 0x03, hiByte start, loByte start, hiByte count, loByte count]

/-- The bytes of a `REQ` with the trailer it carries (R92). -/
def reqBytes (slave : Byte) (start count : U16) (crcLo crcHi : Byte) : List Byte :=
  reqBody slave start count ++ [crcLo, crcHi]

/-- The bytes of an `RSP` before its trailer (R93): the byte count is 2 × count. -/
def rspBody (slave : Byte) (func : BitVec 7) (regs : List U16) : List Byte :=
  [slave, func.setWidth 8, BitVec.ofNat 8 (2 * regs.length)] ++ regBytes regs

/-- The bytes of an `RSP` with the trailer it carries (R93). -/
def rspBytes (slave : Byte) (func : BitVec 7) (regs : List U16) (crcLo crcHi : Byte) : List Byte :=
  rspBody slave func regs ++ [crcLo, crcHi]

/-- The bytes of an `EXC` before its trailer (R94): bit 7 of the function byte is 1. -/
def excBody (slave : Byte) (func : BitVec 7) (code : Byte) : List Byte :=
  [slave, func.setWidth 8 ||| 0x80, code]

/-- The bytes of an `EXC` with the trailer it carries (R94). -/
def excBytes (slave : Byte) (func : BitVec 7) (code crcLo crcHi : Byte) : List Byte :=
  excBody slave func code ++ [crcLo, crcHi]

/-! ### Characters (R96) -/

/-- Number of stop bits of a layout (R111). -/
def CharFormat.stopBits : CharFormat → Nat
  | .n1 | .p1 => 1
  | .n2 | .p2 => 2

/-- Whether a layout has a parity bit (R111). -/
def CharFormat.hasParity : CharFormat → Bool
  | .n1 | .n2 => false
  | .p1 | .p2 => true

/-- Data bits of a byte, `d[0]` first (R96). -/
def dataBits (d : Byte) : List Bool := (List.range 8).map d.getLsbD

/-- The levels of a character in time order: start bit, data bits, parity bit if any, stop bits (R96). -/
def frameLevels (d : Byte) (parity : Option Bool) (stopBits : Nat) : List Bool :=
  false :: (dataBits d ++ parity.toList ++ List.replicate stopBits true)

/-- The byte whose bits, bit 0 first, are these. -/
def byteOfBits (bits : List Bool) : Byte :=
  (List.range 8).foldl (fun acc i => if bits.getD i false then acc ||| (1 <<< i) else acc) 0

/-! ### Operation words -/

/-- Operand byte `i` of an operation word; a missing byte is 0 (log 2). -/
def opByte (ops : List Byte) (i : Nat) : Byte := ops.getD i 0

/-- Operand bytes `i`, `i + 1` as a 16-bit value, high byte first. -/
def opU16 (ops : List Byte) (i : Nat) : U16 := beU16 (opByte ops i) (opByte ops (i + 1))

/-- `k` operand bytes from `i`; missing bytes are 0. -/
def opBytes (ops : List Byte) (i k : Nat) : List Byte :=
  let got := (ops.drop i).take k
  got ++ List.replicate (k - got.length) 0

/-- Accept `i` when nothing but zero bytes follows the first `used` operand bytes. -/
def decodeDone (ops : List Byte) (used : Nat) (i : Instr) : Except DecodeError Instr :=
  if (ops.drop used).all (· == 0) then .ok i else .error .trailingBytes

/-- A one-bit operand: 0 or 1. -/
def opBool (b : Byte) : Option Bool := if b = 0 then some false else if b = 1 then some true else none

/-- The 17 operand bytes of a number: 0, eight bytes of numerator (two's complement), eight bytes of denominator minus
one; or 1 and sixteen bytes of code (log 2). -/
def encodeNum : Num → List Byte
  | .rational q => 0 :: (beBytes 8 (BitVec.ofInt 64 q.num).toNat ++ beBytes 8 (q.den - 1))
  | .coded n => 1 :: beBytes 16 n

/-- The number 17 operand bytes stand for; a fraction must be in lowest terms. -/
def decodeNum (bs : List Byte) : Option Num :=
  let num := (BitVec.ofNat 64 (beNat ((bs.drop 1).take 8))).toInt
  let den := beNat ((bs.drop 9).take 8) + 1
  if opByte bs 0 = 0 then
    if (mkRat num den).num = num ∧ (mkRat num den).den = den then some (.rational (mkRat num den)) else none
  else if opByte bs 0 = 1 then some (.coded (beNat ((bs.drop 1).take 16)))
  else none

/-- The SP.PUBLISH operands: alert, timestamp (8 bytes), voltage, current, power (17 bytes each). -/
def decodePublish (ops : List Byte) : Except DecodeError Instr :=
  match opBool (opByte ops 0), decodeNum (opBytes ops 9 17), decodeNum (opBytes ops 26 17),
      decodeNum (opBytes ops 43 17) with
  | some alert, some v, some c, some p =>
    decodeDone ops 60 (.spPublish ⟨v, c, p, BitVec.ofNat 64 (beNat (opBytes ops 1 8))⟩ alert)
  | _, _, _, _ => .error .badOperand

/-- The operation an identifier byte and operand bytes name (R106, R110). The identifiers are R110's; the operand bytes
are the model's (log 2), chosen so that the operands absent from the table, all zero, name a legal operation (slave 1
and one register for MST.POLL). -/
def decodeOp (id : Byte) (ops : List Byte) : Except DecodeError Instr :=
  match id.toNat with
  | 0x00 => decodeDone ops 0 .reset
  | 0x01 => decodeDone ops 0 .crcInit
  | 0x02 => match opBool (opByte ops 0) with
    | some b => decodeDone ops 1 (.crcBit b)
    | none => .error .badOperand
  | 0x03 => decodeDone ops 1 (.crcUpd (opByte ops 0))
  | 0x04 => decodeDone ops 0 .crcGet
  | 0x05 => decodeDone ops 2 (.crcChk (opByte ops 0) (opByte ops 1))
  | 0x10 => decodeDone ops 5 (.encRdreq (opByte ops 0) (opU16 ops 1) (opU16 ops 3))
  | 0x11 =>
    let len := (opByte ops 3).toNat
    decodeDone ops (4 + len) (.decResp (opBytes ops 4 len) (opByte ops 0) (opU16 ops 1))
  | 0x20 =>
    if (opByte ops 0).toNat ≤ 250 then
      decodeDone ops 9 (.trTransact (opBytes ops 1 8) (5 + (opByte ops 0).toNat))
    else .error .badOperand
  | 0x21 => decodeDone ops 0 .trGap
  | 0x22 => decodeDone ops 0 .trTxen
  | 0x23 => decodeDone ops 0 .trWrite
  | 0x24 => decodeDone ops 0 .trFlush
  | 0x25 => decodeDone ops 0 .trRxen
  | 0x26 => decodeDone ops 0 .trRead
  | 0x27 => decodeDone ops 1 (.uartTxchar (opByte ops 0))
  | 0x28 => decodeDone ops 0 .uartRxchar
  | 0x30 => decodeDone ops 5 (.mstPoll (opByte ops 0 + 1) (opU16 ops 1) (opU16 ops 3 + 1))
  | 0x31 => decodeDone ops 0 .mstCycle
  | 0x40 => decodeDone ops 0 (.spConvert .regframe)
  | 0x41 => decodePublish ops
  | 0x50 => match opBool (opByte ops 2) with
    | some r => decodeDone ops 3 (.dbSample (opU16 ops 0).toNat r)
    | none => .error .badOperand
  | 0x60 =>
    let k := (opByte ops 0).toNat
    if (opBytes ops 1 k).all (fun b => b == 0 || b == 1) then
      decodeDone ops (1 + k) (.uiTick ((opBytes ops 1 k).map (· == 1)))
    else .error .badOperand
  | 0x61 => decodeDone ops 0 .dsmTick
  | 0x62 => decodeDone ops 2 (.dsmBtnMedia (opU16 ops 0).toNat)
  | 0x63 => decodeDone ops 0 .dsmBtnSensor
  | 0x64 => decodeDone ops 0 .dsmMeas
  | 0x65 => match opBool (opByte ops 0) with
    | some a => decodeDone ops 1 (.blkTick a)
    | none => .error .badOperand
  | _ => .error (.unassignedOp id)

/-- The frame a byte sequence is (R92, R93, R94, R105): 8 bytes with function 0x03 a `REQ`; 5 bytes with bit 7 of the
function byte set an `EXC`; an odd number of bytes, 7..255, with bit 7 clear and byte count 2 × count an `RSP`. -/
def decodeFrame (bs : List Byte) : Except DecodeError Instr :=
  let n := bs.length
  let func := opByte bs 1
  if n = 8 then
    if func = 0x03 then
      .ok (.req (opByte bs 0) (opU16 bs 2) (opU16 bs 4) (opByte bs 6) (opByte bs 7))
    else .error .badFunction
  else if n = 5 then
    if func.getLsbD 7 then .ok (.exc (opByte bs 0) (func.setWidth 7) (opByte bs 2) (opByte bs 3) (opByte bs 4))
    else .error .badFunction
  else if 7 ≤ n ∧ n ≤ 255 ∧ n % 2 = 1 then
    if func.getLsbD 7 then .error .badFunction
    else if (opByte bs 2).toNat = n - 5 then
      .ok (.rsp (opByte bs 0) (func.setWidth 7) (pairRegs ((bs.drop 3).take (n - 5))) (opByte bs (n - 2))
        (opByte bs (n - 1)))
    else .error .badByteCount
  else .error .badFrameLength

/-- Number of bit times of a layout (R96, R10). -/
def CharFormat.bits (f : CharFormat) : Nat := 1 + 8 + (if f.hasParity then 1 else 0) + f.stopBits

/-- The character a sequence of levels is, in a given layout (R96). -/
def decodeChar (f : CharFormat) (levels : List Bool) : Except DecodeError Instr :=
  let d := byteOfBits ((levels.drop 1).take 8)
  let p := levels.getD 9 false
  if levels.length ≠ f.bits then .error .badCharLength
  else if levels.getD 0 false then .error .badStartBit
  else if (levels.drop (f.bits - f.stopBits)).all id then
    match f with
    | .n1 => .ok (.char8N1 d)
    | .p1 => .ok (.char8P1 d p)
    | .n2 => .ok (.char8N2 d)
    | .p2 => .ok (.char8P2 d p)
  else .error .badStopBit

/-- The decoder: total on every word, rejecting by name. -/
def decode : StreamWord → Except DecodeError Instr
  | .op [] => .error .emptyWord
  | .op (id :: ops) => decodeOp id ops
  | .frame bs => decodeFrame bs
  | .char f levels => decodeChar f levels

/-! ### The encoder -/

/-- A one-bit operand as a byte. -/
def boolByte (b : Bool) : Byte := if b then 1 else 0

/-- The word of a well-formed instruction (R110 for the identifiers, R92 to R94 and R96 for the formats, log 2 for the
operand bytes). -/
def encode : Instr → StreamWord
  | .reset => .op [0x00]
  | .crcInit => .op [0x01]
  | .crcBit b => .op [0x02, boolByte b]
  | .crcUpd d => .op [0x03, d]
  | .crcGet => .op [0x04]
  | .crcChk lo hi => .op [0x05, lo, hi]
  | .encRdreq s a n => .op [0x10, s, hiByte a, loByte a, hiByte n, loByte n]
  | .decResp buf s n => .op ([0x11, s, hiByte n, loByte n, BitVec.ofNat 8 buf.length] ++ buf)
  | .trTransact r m => .op ([0x20, BitVec.ofNat 8 (m - 5)] ++ r)
  | .trGap => .op [0x21]
  | .trTxen => .op [0x22]
  | .trWrite => .op [0x23]
  | .trFlush => .op [0x24]
  | .trRxen => .op [0x25]
  | .trRead => .op [0x26]
  | .uartTxchar d => .op [0x27, d]
  | .uartRxchar => .op [0x28]
  | .mstPoll s a n => .op [0x30, s - 1, hiByte a, loByte a, hiByte (n - 1), loByte (n - 1)]
  | .mstCycle => .op [0x31]
  | .spConvert .regframe => .op [0x40]
  | .spPublish m alert => .op ([0x41, boolByte alert] ++ beBytes 8 m.timestamp.toNat ++ encodeNum m.voltage ++
      encodeNum m.current ++ encodeNum m.power)
  | .dbSample p r => .op [0x50, hiByte (BitVec.ofNat 16 p), loByte (BitVec.ofNat 16 p), boolByte r]
  | .uiTick raw => .op ([0x60, BitVec.ofNat 8 raw.length] ++ raw.map boolByte)
  | .dsmTick => .op [0x61]
  | .dsmBtnMedia i => .op [0x62, hiByte (BitVec.ofNat 16 i), loByte (BitVec.ofNat 16 i)]
  | .dsmBtnSensor => .op [0x63]
  | .dsmMeas => .op [0x64]
  | .blkTick a => .op [0x65, boolByte a]
  | .req s a n lo hi => .frame (reqBytes s a n lo hi)
  | .rsp s f regs lo hi => .frame (rspBytes s f regs lo hi)
  | .exc s f c lo hi => .frame (excBytes s f c lo hi)
  | .char8N1 d => .char .n1 (frameLevels d none 1)
  | .char8P1 d p => .char .p1 (frameLevels d (some p) 1)
  | .char8N2 d => .char .n2 (frameLevels d none 2)
  | .char8P2 d p => .char .p2 (frameLevels d (some p) 2)

/-! ### Words by number, as spec/opcode_table.json numbers them (log 3) -/

/-- The `n` low bits of `w`, most significant first: time order of a character pattern (R111). -/
def levelsOf (n w : Nat) : List Bool := (List.range n).map fun i => w.testBit (n - 1 - i)

/-- The word whose bits are `w`: 8 bits an operation; 10, 11, 12 bits a character, first bit on the line most significant; 32
bits or more a frame, byte 0 most significant (R91, R111). A number of 16 bits (a character's 10 to 12 in whole bytes) does not
say which layout it is: without a parity bit, and with two stop bits if its last two bits are 1. A 32-bit number is the low
part of an `EXC` pattern, whose byte 0 is then 0 (log 3). -/
def wordOf (nbits w : Nat) : StreamWord :=
  if nbits ≤ 8 then .op [BitVec.ofNat 8 w]
  else if nbits = 11 then (if w.testBit 1 then .char .n2 (levelsOf 11 w) else .char .p1 (levelsOf 11 w))
  else if nbits = 12 then .char .p2 (levelsOf 12 w)
  else if nbits = 16 ∧ w.testBit 1 = true then .char .n2 (levelsOf 11 w)
  else if nbits ≤ 16 then .char .n1 (levelsOf 10 w)
  else if nbits ≤ 40 then .frame (beBytes 5 w)
  else .frame (beBytes (nbits / 8) w)

/-- The instruction the decoder reads from the table word `w` (log 3). -/
def decodeTableWord (nbits w : Nat) : Option Instr :=
  match decode (wordOf nbits w) with
  | .ok i => some i
  | .error _ => none

end Sys2Proof
end

