-- ==== Sys2Proof/Machine/State.lean ====
section
/-! DEFINITION. The architectural state of the block (10_state.md R20 to R36, R43), the environment's pending inputs, the
result types (00_scope.md R12), the stops, and the state after reset (R43, R400, R401). Plain data throughout. -/

namespace Sys2Proof.Machine

/-! ### Result types (R12, R350) -/

/-- `FrameError` (R12): what DEC.RESP reports. -/
inductive FrameError where
  | shortFrame
  | crcMismatch
  | slaveMismatch
  | exceptionResponse (code : Byte)
deriving DecidableEq, Repr

/-- `TransportError` (R12): what a transaction reports. -/
inductive TransportError where
  | timeout
  | ioFailure
deriving DecidableEq, Repr

/-- `PollError` (R12): what a poll reports. -/
inductive PollError where
  | unreachable
  | protocolFault
deriving DecidableEq, Repr

/-- `Result<RegisterFrame, FrameError>` (R165). -/
inductive DecodeResult where
  | ok (frame : List U16)
  | err (e : FrameError)
deriving DecidableEq, Repr

/-- `Result<bytes, TransportError>` (R190). -/
inductive TransportResult where
  | ok (bytes : List Byte)
  | err (e : TransportError)
deriving DecidableEq, Repr

/-- `Result<RegisterFrame, PollError>` (R240). -/
inductive PollResult where
  | ok (frame : List U16)
  | err (e : PollError)
deriving DecidableEq, Repr

/-- The outcome `d` of one attempt in R242: the decoder's result, or the Transport's error. -/
inductive AttemptResult where
  | decoded (r : DecodeResult)
  | transport (e : TransportError)
deriving DecidableEq, Repr

/-- The class R244 gives an outcome. -/
inductive Verdict where
  | success (frame : List U16)
  | retry
  | reject
deriving DecidableEq, Repr

/-- What the link oracle delivers as one character (R205): a byte, or a character in error (R203). -/
inductive LinkItem where
  | byte (d : Byte)
  | error
deriving DecidableEq, Repr

/-- How a reception ended (R199). -/
inductive EndReason where
  | silence | timeout | maxlen
deriving DecidableEq, Repr

/-! ### Sequencing state (R37) -/

/-- `tr.phase` (R25, R191). -/
inductive TrPhase where
  | idle | gap | tx | flush | turn | rx | done
deriving DecidableEq, Repr

/-- `mst.phase` (R28). -/
inductive MstPhase where
  | wait | encode | transact | decode | backoff | convert | report
deriving DecidableEq, Repr

/-- `DisplayMode` (R12, R34, R312). -/
inductive DisplayMode where
  | startup (i : Nat)
  | media (i : Nat)
  | sensor
deriving DecidableEq, Repr

/-! ### Units -/

/-- A byte space (R60): cells (index, byte), indices rising; an index that is not listed holds no value (R64). -/
abbrev Memory := List Host.Cell

/-- Transport state (R25). `dir_state` is a field of `State`. -/
structure Tr where
  phase : TrPhase
  txidx : Nat
  idleCnt : Nat
  turnCnt : Nat
  silenceCnt : Nat
  timeoutCnt : Nat
  maxLen : Nat
  ioErr : Bool
deriving DecidableEq, Repr

/-- UART transmitter state (R26). `shift` holds the `CHAR_BITS` ≤ 12 levels still to come, the one on the line in bit 0;
`bitcnt` counts the bit times that have ended. -/
structure Utx where
  shift : BitVec 12
  bitcnt : Nat
  tickcnt : Nat
  busy : Bool
deriving DecidableEq, Repr

/-- UART receiver state (R27). Bit `i` of `shift` is the sample of bit time `i`. -/
structure Urx where
  enable : Bool
  shift : BitVec 12
  bitcnt : Nat
  tickcnt : Nat
  busy : Bool
deriving DecidableEq, Repr

/-- Master state (R28). `result` and `held` are the model's own: `result` is the code (R352) of the poll's result `r` of R248
from the end of the poll to the report (log 21); `held` says that an attempt has begun whose transaction waits for the tick in
which the one before it is DONE (log 38). -/
structure Mst where
  phase : MstPhase
  attempt : Nat
  backoffCnt : Nat
  intervalCnt : Nat
  result : BitVec 2
  held : Bool
deriving DecidableEq, Repr

/-- The snapshot slot (R32). -/
structure Snap where
  valid : Bool
  voltage : Num
  current : Num
  power : Num
  timestamp : BitVec 64
  alert : Bool
deriving DecidableEq, Repr

/-- Debouncer state of one pin (R33, R291). -/
structure PinState where
  stable : Bool
  cnt : Nat
deriving DecidableEq, Repr

/-- Display state (R34, R35). -/
structure Disp where
  mode : DisplayMode
  dwell : Nat
deriving DecidableEq, Repr

/-- Blink state (R36). -/
structure Blink where
  visible : Bool
  cnt : Nat
  armed : Bool
deriving DecidableEq, Repr

/-- The intent outputs (R20, R327): the mode, the optional Measurement, the blink flag. They hold between ui ticks. -/
structure Intent where
  mode : DisplayMode
  meas : Option Measurement
  blink : Bool
deriving DecidableEq, Repr

/-- The ui-tick divider (R9, R360) and whether a ui tick has begun whose UI.TICK is still to be done (log 11). -/
structure UiClock where
  div : Nat
  due : Bool
deriving DecidableEq, Repr

/-- The result an operation gives its caller (R106, "→ result"); the model's own register (log 19). -/
inductive OpResult where
  | none
  /-- CRC.GET: `(lo, hi)` -/
  | trailer (lo hi : Byte)
  /-- CRC.CHK -/
  | check (ok : Bool)
  /-- ENC.RDREQ: the 8 bytes -/
  | bytes (bs : List Byte)
  /-- DEC.RESP -/
  | decoded (r : DecodeResult)
  /-- TR.TRANSACT, TR.READ -/
  | transport (r : TransportResult)
  /-- UART.RXCHAR: the character, or none when the line stays idle (log 15) -/
  | character (c : Option LinkItem)
  /-- MST.POLL -/
  | poll (r : PollResult)
  /-- SP.CONVERT: the Measurement and the Alert State -/
  | measurement (m : Measurement) (alert : Bool)
  /-- DB.SAMPLE: the pin of the Button Event, if one is emitted -/
  | event (pin : Option Nat)
deriving DecidableEq, Repr

/-- One answer of the link oracle (R205): pairs of idle ticks before a character and the character. -/
abbrev Answer := List (Nat × LinkItem)

/-- What the outside has ready for the block, and its record of what the block sent; the model's own (log 1, 9, 14, 25,
26, 29). -/
structure Env where
  /-- words presented to the block, the next one first -/
  pend : List StreamWord
  /-- `uart_rxd` on the coming ticks, the next one first; idle (1) afterwards -/
  line : List Bool
  /-- the link oracle's answers to the coming transactions -/
  answers : List Answer
  /-- `btn_raw`, pin 0 first; a pin beyond the list is released -/
  btn : List Bool
  /-- `btn_raw` at the coming ui ticks; afterwards it keeps its level -/
  btnNext : List (List Bool)
  /-- `rst` on the coming ticks; 0 afterwards -/
  rstNext : List Bool
  /-- draws for R361: true lets the UI agent go first; afterwards `Config.uiFirst` decides -/
  orderNext : List Bool
  /-- the level of `uart_txd` on every tick on which the transmitter was busy, oldest first -/
  txdLog : List Bool
deriving DecidableEq, Repr

/-- The whole machine. -/
structure State where
  /-- the configuration record (R40, R41), written by nobody -/
  cfg : Cfg
  /-- `crc` (R21) -/
  crc : U16
  /-- space `TX`: `txbuf` (R22) -/
  tx : Memory
  /-- space `RX`: `rxbuf` (R23) -/
  rx : Memory
  /-- `rxlen` (R23) -/
  rxlen : Nat
  /-- space `RF`: `regframe` (R24) -/
  regframe : List U16
  /-- `regframe_valid` (R24) -/
  regframeValid : Bool
  /-- `tr.*` (R25) -/
  tr : Tr
  /-- `dir_state` (R25): true is transmit -/
  dirState : Bool
  /-- port `uart_txd` (R20, R26) -/
  uartTxd : Bool
  /-- `utx.*` (R26) -/
  utx : Utx
  /-- `urx.*` (R27) -/
  urx : Urx
  /-- `mst.*` (R28) -/
  mst : Mst
  /-- `poll_status` (R29) -/
  pollStatus : BitVec 2
  /-- `poll_done` (R29) -/
  pollDone : Bool
  /-- `now` (R31) -/
  now : BitVec 64
  /-- `snap.*` (R32) -/
  snap : Snap
  /-- `db[p]` for each monitored pin `p`, ascending (R33) -/
  db : List (Nat × PinState)
  /-- `disp.*` (R34, R35) -/
  disp : Disp
  /-- `blink.*` (R36) -/
  blink : Blink
  /-- the intent outputs (R327) -/
  out : Intent
  /-- the ui-tick divider (R360) -/
  ui : UiClock
  /-- result of the last operation (log 19) -/
  res : OpResult
  /-- the environment -/
  env : Env
deriving DecidableEq, Repr

/-! ### Stops -/

/-- An element whose read R64 calls a fault when it holds no value. -/
inductive Element where
  | txbuf | rxbuf | regframe | maxLen
deriving DecidableEq, Repr

/-- Faults. -/
inductive Fault where
  /-- Raised by TR.WRITE, TR.READ, SP.CONVERT and the poll agent when they need an element that holds no value (R64, R401,
  U2: "A model should make such a read a fault, never a zero"). Safe: no run of the block itself performs such a read. -/
  | noValue (e : Element)
deriving DecidableEq, Repr

/-- Refusals. -/
inductive Refusal where
  /-- Raised by `exec` for an instruction without a meaning. No arm raises it. Safe. -/
  | notModelled (mnemonic : String)
  /-- Raised by `step` when the configuration breaks a constraint of R8, R241 or R311 (R13: a model refuses it, it gives no
  run). Safe. -/
  | illFormedConfig
  /-- Raised by `step` for a presented word that is no instruction (R110, R96, R105). Safe. -/
  | undecodable (e : DecodeError)
  /-- Raised by MST.POLL for operands outside R241 ("MST.POLL has no rule for it"). Safe. -/
  | invalidPollOperands
  /-- Raised by DSM.BTN_MEDIA for an index outside 0..N_MEDIA−1 (R312). Safe. -/
  | mediaIndexOutOfRange
deriving DecidableEq, Repr

/-! ### Reset (R43, R400, R401) -/

/-- Pin numbers `p` with `pinmap(p) ≠ none`, ascending, from pin `k` on (R290). -/
def monitoredFrom : Nat → List PinUse → List Nat
  | _, [] => []
  | k, .unmapped :: us => monitoredFrom (k + 1) us
  | k, .media _ :: us => k :: monitoredFrom (k + 1) us
  | k, .sensor :: us => k :: monitoredFrom (k + 1) us

/-- An environment with nothing ready: no word, an idle line, a silent slave, all pins released, no reset. -/
def Env.quiet : Env where
  pend := []
  line := []
  answers := []
  btn := []
  btnNext := []
  rstNext := []
  orderNext := []
  txdLog := []

/-- The value R43 gives every state element under configuration `c`; the environment is not state of the block and stays.
Elements R43 leaves without value take the values of log 6. -/
def State.resetOf (c : Cfg) (e : Env) : State where
  cfg := c
  crc := 0xFFFF
  tx := []
  rx := []
  rxlen := 0
  regframe := []
  regframeValid := false
  tr := { phase := .idle, txidx := 0, idleCnt := 0, turnCnt := 0, silenceCnt := 0, timeoutCnt := 0, maxLen := 5,
          ioErr := false }
  dirState := false
  uartTxd := true
  utx := { shift := 0, bitcnt := 0, tickcnt := 0, busy := false }
  urx := { enable := false, shift := 0, bitcnt := 0, tickcnt := 0, busy := false }
  mst := { phase := .wait, attempt := 0, backoffCnt := 0, intervalCnt := c.pollInterval, result := 3,
           held := false }
  pollStatus := 3
  pollDone := false
  now := 0
  snap := { valid := false, voltage := .rational 0, current := .rational 0, power := .rational 0, timestamp := 0,
            alert := false }
  db := (monitoredFrom 0 c.pinmap).map fun p => (p, { stable := false, cnt := 0 })
  disp := { mode := .startup 0, dwell := 0 }
  blink := { visible := c.blinkIdle, cnt := 0, armed := false }
  out := { mode := .startup 0, meas := none, blink := c.blinkIdle }
  ui := { div := 0, due := false }
  res := .none
  env := e

/-- The machine right after reset, with the configuration of log 5 and a quiet environment. -/
def State.reset : State := State.resetOf Cfg.vectorDefault Env.quiet

end Sys2Proof.Machine
end

