-- ==== Sys2Proof/Machine/Params.lean ====
section
/-! DEFINITION. Derived parameters (00_scope.md R10), well-formedness of a configuration (R13, R8, R241, R311), the pin map
and the numerics record (R270) as functions. -/

namespace Sys2Proof.Machine

/-- `CHAR_BITS = 1 + 8 + (PARITY ≠ none ? 1 : 0) + STOPBITS` (R10). -/
def charBits (c : Cfg) : Nat := 1 + 8 + (if c.parity = .none then 0 else 1) + c.stopBits

/-- `CHAR_TICKS = CHAR_BITS × BIT_TICKS` (R10). -/
def charTicks (c : Cfg) : Nat := charBits c * c.bitTicks

/-- `T35_TICKS = ceil(7 × CHAR_TICKS / 2)` (R10). -/
def t35Ticks (c : Cfg) : Nat := (7 * charTicks c + 1) / 2

/-- `max_len(count) = 5 + 2 × count` (R10, R204). -/
def maxLenOf (count : Nat) : Nat := 5 + 2 * count

/-- `RX_MAX = max_len(MAX_COUNT)` (R23). -/
def rxMax (c : Cfg) : Nat := maxLenOf c.maxCount

/-- What `pinmap` says of pin `p`; a pin outside the map is not monitored. -/
def pinUse (c : Cfg) (p : Nat) : PinUse := c.pinmap.getD p .unmapped

/-- Whether pin `p` is monitored (R290). -/
def monitored (c : Cfg) (p : Nat) : Bool := pinUse c p != .unmapped

/-- A triple `(s, a, n)` R241 calls valid. -/
def validPoll (c : Cfg) (slave : Byte) (start count : U16) : Bool :=
  decide (1 ≤ slave.toNat) && decide (slave.toNat ≤ 247) && decide (1 ≤ count.toNat) && decide (count.toNat ≤ c.maxCount) &&
    decide (start.toNat + count.toNat ≤ 65536)

/-- `COUNT` as the operand `n : u16` of MST.POLL. -/
def countOperand (c : Cfg) : U16 := BitVec.ofNat 16 c.count

/-- A pin use that R311 allows: a media index below `N_MEDIA`. -/
def pinUseOk (nMedia : Nat) : PinUse → Bool
  | .media i => decide (i < nMedia)
  | .unmapped | .sensor => true

/-- The constraints of R8, R10, R241 and R311 together (R13). `MAX_COUNT` is at most 125, so that the ranges of R23, R25 and R105
hold (log 34). -/
def cfgWf (c : Cfg) : Bool :=
  decide (1 ≤ c.bitTicks ∧ (c.stopBits = 1 ∨ c.stopBits = 2) ∧ c.byteSize = 8 ∧ 1 ≤ c.slaveId.toNat ∧
    c.slaveId.toNat ≤ 247 ∧ 1 ≤ c.count ∧ c.count ≤ c.maxCount ∧ c.maxCount ≤ 125 ∧
    c.startReg.toNat + c.count ≤ 65536 ∧ c.vIdx < c.count ∧ c.iIdx < c.count ∧ 1 ≤ c.pollInterval ∧
    1 ≤ c.respTimeout ∧ 1 ≤ c.uiTickTicks ∧ c.pinmap.length = c.nPin ∧ 1 ≤ c.nMedia ∧
    c.pinmap.all (pinUseOk c.nMedia) = true ∧ c.pinmap.count .sensor ≤ 1 ∧ 1 ≤ c.debounceN ∧ 1 ≤ c.blinkN ∧
    1 ≤ c.startupN)

/-! ### The numerics record (R270) -/

/-- `scale_v(r)`. -/
def scaleV (n : Numerics) (r : U16) : Num :=
  match n with
  | .exact k _ => .rational (r.toNat * k)
  | .other id => Config.scaleV (.other id) r

/-- `scale_i(r)`. -/
def scaleI (n : Numerics) (r : U16) : Num :=
  match n with
  | .exact _ k => .rational (r.toNat * k)
  | .other id => Config.scaleI (.other id) r

/-- `mul(a, b)`. -/
def mulNum (n : Numerics) (a b : Num) : Num :=
  match n, a, b with
  | .exact _ _, .rational x, .rational y => .rational (x * y)
  | n, a, b => Config.mul n a b

/-- `ge(a, b)`. -/
def geNum (n : Numerics) (a b : Num) : Bool :=
  match n, a, b with
  | .exact _ _, .rational x, .rational y => decide (y ≤ x)
  | n, a, b => Config.ge n a b

end Sys2Proof.Machine
end

