-- ==== Sys2Proof/Machine/System.lean ====
section
/-! DEFINITION. RESET (70_reset_and_hazards.md R400) and the taking of presented words (log 1). -/

namespace Sys2Proof.Machine

/-- `RESET` (R400): every state element takes its reset value, in any state; the configuration is as supplied (R43). -/
def execReset (s : State) : Host.Outcome State Fault Refusal := .next (State.resetOf s.cfg s.env)

/-- The presented word that is next, if there is one. -/
def fetchWord (s : State) : Option StreamWord := s.env.pend.head?

/-- The presented word has been taken. -/
def takeWord (s : State) : State := { s with env := { s.env with pend := s.env.pend.tail } }

/-- The state with word `w` presented as the next one. -/
def presentWord (w : StreamWord) (s : State) : State := { s with env := { s.env with pend := w :: s.env.pend } }

/-- The levels of `rst` on the ticks a presented word took, `t` being the state after it. -/
def sampledRst (s t : State) : List Bool := s.env.rstNext.take (s.env.rstNext.length - t.env.rstNext.length)

/-- A word whose ticks meet `rst` at 1 is cut short there (R400, R404): the block is reset on that tick, and nothing else of the
word has an effect (log 25). -/
def cutByRst (s : State) (o : Host.Outcome State Fault Refusal) : Host.Outcome State Fault Refusal :=
  match o with
  | .next t =>
    if (sampledRst s t).any id then
      let k := s.env.rstNext.findIdx id + 1
      .next (State.resetOf s.cfg { s.env with line := s.env.line.drop k, rstNext := s.env.rstNext.drop k })
    else .next t
  | .fault e => .fault e
  | .refused e => .refused e

end Sys2Proof.Machine
end

