-- ==== Sys2Proof/Machine/Flags.lean ====
section
/-! DEFINITION. Every flag computation of the block (10_state.md R38) and the bit conditions the rules test. -/

namespace Sys2Proof.Machine

/-- Even parity of a byte: `d[0]^…^d[7]` (R96). -/
def evenParity (d : Byte) : Bool := (dataBits d).foldl xor false

/-- The parity bit R96 gives `d`, or none. -/
def parityBit (p : Parity) (d : Byte) : Option Bool :=
  match p with
  | .none => none
  | .even => some (evenParity d)
  | .odd => some (!evenParity d)

/-- Alert State of a current: `ge(current, THRESHOLD)`; equality gives true (R273). -/
def alertOf (c : Cfg) (current : Num) : Bool := geNum c.numerics current c.threshold

/-- A character has ended in this reception (`seen` of R199): it was stored or it set `tr.io_err`. -/
def seenChar (s : State) : Bool := decide (0 < s.rxlen) || s.tr.ioErr

/-- The line is idle in this tick (R209): `uart_txd` and `uart_rxd` are 1 and neither half of the UART is busy. -/
def lineIdle (s : State) (rxd : Bool) : Bool := s.uartTxd && rxd && !s.utx.busy && !s.urx.busy

/-- The receiver is in a start bit that its middle sample, still to come on `line`, will find to be a glitch (R201): no
character is begun, so none is in progress (log 13). -/
def falseStart (c : Cfg) (u : Urx) (line : List Bool) : Bool :=
  u.busy && decide (u.bitcnt = 0) && decide (u.tickcnt ≤ c.bitTicks / 2) && line.getD (c.bitTicks / 2 - u.tickcnt) true

/-- A character is being received (R27, R201). -/
def charInProgress (s : State) : Bool := s.urx.busy && !falseStart s.cfg s.urx s.env.line

/-- Reception ends by length (R199). -/
def endsByLength (s : State) : Bool := decide (s.tr.maxLen ≤ s.rxlen)

/-- Reception ends by silence: a character has ended and the silence after it has reached `T35_TICKS` (R199). It counts only
while no character is in progress, and once complete it stays so: a character that begins after it is too late. -/
def endsBySilence (s : State) : Bool := seenChar s && decide (t35Ticks s.cfg ≤ s.tr.silenceCnt)

/-- Reception ends by the response timeout (R199). -/
def endsByTimeout (s : State) : Bool := decide (s.cfg.respTimeout ≤ s.tr.timeoutCnt)

/-- The reception is over: one of the three ends of R199. -/
def receptionOver (s : State) : Bool := endsByLength s || endsBySilence s || endsByTimeout s

/-- Codes of `poll_status` (R352). -/
def pollCode : PollResult → BitVec 2
  | .ok _ => 0
  | .err .unreachable => 1
  | .err .protocolFault => 2

/-- Port `mode_tag` of a mode (R20). -/
def modeTag : DisplayMode → BitVec 2
  | .startup _ => 0
  | .media _ => 1
  | .sensor => 2

/-- Port `dir`: `DIR_TX_LEVEL` iff `dir_state` = 1 (R25). -/
def dirPort (s : State) : Bool := if s.dirState then s.cfg.dirTxLevel else !s.cfg.dirTxLevel

/-- Port `mode_tag` (R327). -/
def modeTagPort (s : State) : BitVec 2 := modeTag s.out.mode

/-- Port `mode_index` (R327); no rule gives it a value while `mode_tag` is 2 (log 8). -/
def modeIndexPort (s : State) : Nat :=
  match s.out.mode with
  | .startup i => i
  | .media i => i
  | .sensor => Config.modeIndexInSensor s.now.toNat

/-- Port `meas_valid` (R327). -/
def measValidPort (s : State) : Bool := s.out.meas.isSome

/-- Port `uart_rxd` in the coming tick (R20). -/
def rxdPort (s : State) : Bool := s.env.line.headD true

/-- Port `rst` in the coming tick (R400). -/
def rstPort (s : State) : Bool := s.env.rstNext.headD false

end Sys2Proof.Machine
end

