-- ==== Sys2Proof/Machine/Ops.lean ====
section
/-! DEFINITION. The named operations over the byte spaces, the registers, time, and the taking of and return from an error
(60_exceptions.md R355, R356). Everything else is written over these. -/

namespace Sys2Proof.Machine

/-! ### Byte spaces: `MemRead` and `MemWrite` of R7 over the spaces of R60 -/

/-- The byte at an index, if it holds one (R64). -/
def Memory.read : Memory → Nat → Option Byte
  | [], _ => none
  | (k, b) :: m, a => if k = a then some b else Memory.read m a

/-- Store a byte at an index, keeping the cells in rising order. -/
def Memory.write : Memory → Nat → Byte → Memory
  | [], a, b => [(a, b)]
  | (k, v) :: m, a, b =>
    if a < k then (a, b) :: (k, v) :: m
    else if a = k then (a, b) :: m
    else (k, v) :: Memory.write m a b

/-- `MemRead(space, addr, n)` (R7): `n` bytes from `addr`, if each holds a value. -/
def Memory.readN (m : Memory) (a : Nat) : Nat → Option (List Byte)
  | 0 => some []
  | n + 1 =>
    match Memory.read m a, Memory.readN m (a + 1) n with
    | some b, some bs => some (b :: bs)
    | _, _ => none

/-- `MemWrite(space, addr, n, v)` (R7): consecutive bytes from `addr`. -/
def Memory.writeN (m : Memory) (a : Nat) : List Byte → Memory
  | [] => m
  | b :: bs => Memory.writeN (Memory.write m a b) (a + 1) bs

/-- The canonical form: every listed index is at least `lo`, and indices rise strictly. An unlisted index holds no value,
and no cell can say that, so nothing more is needed for equal memories to be equal data. -/
def Memory.wfFrom (lo : Nat) : Memory → Bool
  | [] => true
  | (k, _) :: m => decide (lo ≤ k) && Memory.wfFrom (k + 1) m

/-- The canonical form of a byte space. -/
def Memory.wf (m : Memory) : Bool := Memory.wfFrom 0 m

/-! ### Registers -/

/-- Write `crc`. -/
def State.setCrc (s : State) (v : U16) : State := { s with crc := v }
/-- Write `tx`. -/
def State.setTx (s : State) (v : Memory) : State := { s with tx := v }
/-- Write `rx`. -/
def State.setRx (s : State) (v : Memory) : State := { s with rx := v }
/-- Write `rxlen`. -/
def State.setRxlen (s : State) (v : Nat) : State := { s with rxlen := v }
/-- Write `regframe`. -/
def State.setRegframe (s : State) (v : List U16) : State := { s with regframe := v }
/-- Write `regframeValid`. -/
def State.setRegframeValid (s : State) (v : Bool) : State := { s with regframeValid := v }
/-- Write `tr`. -/
def State.setTr (s : State) (v : Tr) : State := { s with tr := v }
/-- Write `dirState`. -/
def State.setDirState (s : State) (v : Bool) : State := { s with dirState := v }
/-- Write `uartTxd`. -/
def State.setUartTxd (s : State) (v : Bool) : State := { s with uartTxd := v }
/-- Write `utx`. -/
def State.setUtx (s : State) (v : Utx) : State := { s with utx := v }
/-- Write `urx`. -/
def State.setUrx (s : State) (v : Urx) : State := { s with urx := v }
/-- Write `mst`. -/
def State.setMst (s : State) (v : Mst) : State := { s with mst := v }
/-- Write `pollStatus`. -/
def State.setPollStatus (s : State) (v : BitVec 2) : State := { s with pollStatus := v }
/-- Write `pollDone`. -/
def State.setPollDone (s : State) (v : Bool) : State := { s with pollDone := v }
/-- Write `now`. -/
def State.setNow (s : State) (v : BitVec 64) : State := { s with now := v }
/-- Write `snap`. -/
def State.setSnap (s : State) (v : Snap) : State := { s with snap := v }
/-- Write `db`. -/
def State.setDb (s : State) (v : List (Nat × PinState)) : State := { s with db := v }
/-- Write `disp`. -/
def State.setDisp (s : State) (v : Disp) : State := { s with disp := v }
/-- Write `blink`. -/
def State.setBlink (s : State) (v : Blink) : State := { s with blink := v }
/-- Write `out`. -/
def State.setOut (s : State) (v : Intent) : State := { s with out := v }
/-- Write `ui`. -/
def State.setUi (s : State) (v : UiClock) : State := { s with ui := v }
/-- Write `res`. -/
def State.setRes (s : State) (v : OpResult) : State := { s with res := v }
/-- Write `env`. -/
def State.setEnv (s : State) (v : Env) : State := { s with env := v }

/-! ### Ticks (00_scope.md R9, R11) -/

/-- `tr.idle_cnt` after the given levels of `uart_rxd`, the block itself being silent (R209): cleared by a 0, else counted
up, saturating at `t`. -/
def idleRun (t c : Nat) (levels : List Bool) : Nat :=
  levels.foldl (fun c l => if l then min t (c + 1) else 0) c

/-- `tr.idle_cnt` after `n` ticks of which the first carry `line` and the rest are idle. -/
def idleAfter (t c : Nat) (line : List Bool) (n : Nat) : Nat :=
  min t (idleRun t c (line.take n) + (n - line.length))

/-- What `n` ticks change whatever the poll agent waits for: `now` (R31), `mst.interval_cnt` held at its limit (R28), the
end of the `poll_done` pulse (R252) and of phase DONE (R191), `tr.timeout_cnt` while receiving (R25), the line, and the
levels of `rst` that pass. -/
def passTicks (n : Nat) (s : State) : State :=
  if n = 0 then s
  else
    { s with
      now := s.now + BitVec.ofNat 64 n
      pollDone := false
      mst := { s.mst with intervalCnt := min s.cfg.pollInterval (s.mst.intervalCnt + n) }
      tr := { s.tr with
        phase := if s.tr.phase = .done then .idle else s.tr.phase
        timeoutCnt := if s.tr.phase = .rx then min s.cfg.respTimeout (s.tr.timeoutCnt + n) else s.tr.timeoutCnt }
      env := { s.env with line := s.env.line.drop n, rstNext := s.env.rstNext.drop n } }

/-- `n` ticks on which the block neither sends nor receives: a receiver that was inside a character stands still and is left
out of account (log 10). -/
def idlePass (n : Nat) (s : State) : State :=
  let p := passTicks n s
  if n = 0 then s
  else p.setTr { p.tr with idleCnt := idleAfter (t35Ticks s.cfg) s.tr.idleCnt s.env.line n }

/-- `n` ticks on which the transmitter is busy: the line is not idle (R209). -/
def busyPass (n : Nat) (s : State) : State :=
  let p := passTicks n s
  if n = 0 then s else p.setTr { p.tr with idleCnt := 0 }

/-! ### Phases (R37, R191) -/

/-- The receiver when it is disabled: every `urx` element 0, `urx.shift` included (log 30). -/
def urxOff : Urx := { enable := false, shift := 0, bitcnt := 0, tickcnt := 0, busy := false }

/-- The transmitter when it has nothing to send: every `utx` element 0, `utx.shift` included (log 30). -/
def utxOff : Utx := { shift := 0, bitcnt := 0, tickcnt := 0, busy := false }

/-- No transaction is under way: phase IDLE, or DONE, whose transaction has ended (R191). -/
def TrPhase.resting : TrPhase → Bool
  | .idle | .done => true
  | .gap | .tx | .flush | .turn | .rx => false

/-- `tr.max_len` when phase `p` is entered: a transaction that begins takes the maximum of the configured request (R204; log
22), and keeps it (R64). -/
def maxLenIn (s : State) (p : TrPhase) : Nat :=
  if s.tr.phase.resting && !p.resting then maxLenOf s.cfg.count else s.tr.maxLen

/-- `tr.phase ← p` for a phase other than RX. The receiver is enabled in phase RX only (R27), and the counters of the
phases TURN and RX are cleared when the Transport leaves them (R11); `tr.txidx` stays until TR.TXEN (log 30). -/
def State.enterPhase (s : State) (p : TrPhase) : State :=
  { s with
    tr := { s.tr with phase := p, turnCnt := 0, silenceCnt := 0, timeoutCnt := 0, maxLen := maxLenIn s p }
    urx := urxOff }

/-- The tick of phase DONE, if the Transport is in it: then IDLE (R191, R208). -/
def leaveDone (s : State) : State := if s.tr.phase = .done then idlePass 1 s else s

/-- `mst.phase ← p` for a phase other than BACKOFF, whose counter is cleared when the master leaves it (R11). -/
def State.setMstPhase (s : State) (p : MstPhase) : State := s.setMst { s.mst with phase := p, backoffCnt := 0, held := false }

/-! ### Errors: taking one and going on after it (R244, R355, R356) -/

/-- The class of an attempt's outcome: the table of R244. -/
def verdict : AttemptResult → Verdict
  | .decoded (.ok f) => .success f
  | .decoded (.err .slaveMismatch) => .reject
  | .decoded (.err (.exceptionResponse _)) => .reject
  | .decoded (.err .crcMismatch) => .retry
  | .decoded (.err .shortFrame) => .retry
  | .transport .timeout => .retry
  | .transport .ioFailure => .retry

/-- Taking the error of an attempt that is retried (R355, R242): `mst.attempt` counts it and the master waits in phase
BACKOFF. `rx`, `rxlen`, `crc` and `tr.*` stay as the attempt left them; nothing else changes. -/
def takeError (s : State) : State :=
  s.setMst { s.mst with phase := .backoff, attempt := s.mst.attempt + 1, backoffCnt := 0 }

/-- Going on after it (R356, R245): the backoff is over and the next attempt begins. -/
def returnFromError (s : State) : State := s.setMst { s.mst with phase := .transact, backoffCnt := 0 }

/-- The end of a poll (R242, R248): success goes on to CONVERT, failure (the poll's error, R355) to REPORT; the code waits
in `mst.result` (log 21). -/
def endPoll (r : PollResult) (s : State) : State :=
  s.setMst { s.mst with
    phase := (match r with | .ok _ => .convert | .err _ => .report), result := pollCode r }

/-- The report at the end of a cycle (R252): `poll_status` takes the code, `poll_done` is raised, the next cycle is
awaited. -/
def reportPoll (s : State) : State :=
  ((s.setPollStatus s.mst.result).setPollDone true).setMstPhase .wait

end Sys2Proof.Machine
end

