-- ==== Sys2Proof/Machine/Operands.lean ====
section
/-! DEFINITION. The operand forms of the operations (30_encoding.md R106): an explicit value, an element of a space (R60),
a pin's level, a configured value. -/

namespace Sys2Proof.Machine

/-- The request TR.WRITE sends: `txbuf[0..7]`, if ENC.RDREQ has written it (R195, R64). -/
def txOperand (s : State) : Option (List Byte) := Memory.readN s.tx 0 8

/-- Request byte `tr.txidx`, the next one to hand to the UART (R25, R195). -/
def txByte (s : State) : Option Byte := Memory.read s.tx s.tr.txidx

/-- One byte of `RX`: an index at or beyond `rxlen` holds no value (R23, R64). -/
def rxByte (s : State) (i : Nat) : Option Byte := if i < s.rxlen then Memory.read s.rx i else none

/-- The bytes received: `rxbuf[0..rxlen−1]` (R165, R202). -/
def rxOperand (s : State) : Option (List Byte) := Memory.readN s.rx 0 s.rxlen

/-- The frame SP.CONVERT consumes: `regframe`, while `regframe_valid` = 1 (R24, R271, R64). -/
def frameOperand (f : FrameRef) (s : State) : Option (List U16) :=
  match f with
  | .regframe => if s.regframeValid then some s.regframe else none

/-- Register `i` of a Register Frame (R62). -/
def frameReg (f : List U16) (i : Nat) : Option U16 := f[i]?

/-- The raw level of pin `p` in a ui tick; a pin beyond the list is released (log 16). -/
def rawLevel (raw : List Bool) (p : Nat) : Bool := raw.getD p false

/-- A media index of R312. -/
def mediaIndexOk (c : Cfg) (i : Nat) : Bool := decide (i < c.nMedia)

/-- The buttons of the coming ui tick: the next entry of `env.btnNext`, else the level the port has. -/
def rawOperand (s : State) : List Bool := s.env.btnNext.headD s.env.btn

end Sys2Proof.Machine
end

