-- ==== Sys2Proof/Machine/Debounce.lean ====
section
/-! DEFINITION. The input debouncer (45_debouncer.md R290 to R298). -/

namespace Sys2Proof.Machine

/-- One sample of one pin (R292): its new state, and whether a Button Event is emitted. -/
def samplePin (n : Nat) (r : Bool) (p : PinState) : PinState × Bool :=
  if r = p.stable then ({ p with cnt := 0 }, false)
  else if n ≤ p.cnt + 1 then ({ stable := r, cnt := 0 }, r)
  else ({ p with cnt := p.cnt + 1 }, false)

/-- DB.SAMPLE on one pin of the list: the entry of pin `p` is sampled, the others stay (R292). -/
def samplePinIn (n p : Nat) (r : Bool) : List (Nat × PinState) → List (Nat × PinState) × Bool
  | [] => ([], false)
  | (q, st) :: db =>
    if q = p then ((q, (samplePin n r st).1) :: db, (samplePin n r st).2)
    else ((q, st) :: (samplePinIn n p r db).1, (samplePinIn n p r db).2)

/-- Every monitored pin sampled once, in ascending pin order: the new list and the pins with an event (R310 step 1). -/
def sampleAll (n : Nat) (raw : List Bool) : List (Nat × PinState) → List (Nat × PinState) × List Nat
  | [] => ([], [])
  | (p, st) :: db =>
    let a := samplePin n (rawLevel raw p) st
    let rest := sampleAll n raw db
    ((p, a.1) :: rest.1, if a.2 then p :: rest.2 else rest.2)

/-! ### The shift-register realisation (R296) -/

/-- Its state: the stable level and the last `DEBOUNCE_N` samples, the newest first. -/
structure ShiftPin where
  stable : Bool
  sr : List Bool
deriving DecidableEq, Repr

/-- Its reset: level 0, every sample 0. -/
def shiftPinReset (n : Nat) : ShiftPin := { stable := false, sr := List.replicate n false }

/-- One sample: shift it in, then compare all of them (R296). -/
def shiftSample (r : Bool) (p : ShiftPin) : ShiftPin × Bool :=
  let sr := (r :: p.sr).dropLast
  if sr.all id && !p.stable then ({ stable := true, sr := sr }, true)
  else if sr.all (!·) && p.stable then ({ stable := false, sr := sr }, false)
  else ({ p with sr := sr }, false)

/-! ### Meaning -/

/-- `DB.SAMPLE p, r` (R292): zero or one Button Event; a pin that is not monitored has no state and emits nothing (R290,
log 16). The event is a result; the display is not moved by it (log 44). -/
def execDbSample (p : Nat) (r : Bool) (s : State) : Host.Outcome State Fault Refusal :=
  let d := samplePinIn s.cfg.debounceN p r s.db
  .next ((s.setDb d.1).setRes (.event (if d.2 then some p else none)))

end Sys2Proof.Machine
end

