-- ==== Sys2Proof/Machine/Sample.lean ====
section
/-! DEFINITION. The sample pipeline (44_sample_pipeline.md R270 to R276). -/

namespace Sys2Proof.Machine

/-- The Measurement of the two relevant registers at time `now` (R271, R272). -/
def measurementOf (c : Cfg) (v i : U16) (now : BitVec 64) : Measurement where
  voltage := scaleV c.numerics v
  current := scaleI c.numerics i
  power := mulNum c.numerics (scaleV c.numerics v) (scaleI c.numerics i)
  timestamp := now

/-- SP.CONVERT on a frame (R271): Measurement and Alert State, if the frame has the registers `V_IDX` and `I_IDX`; its length
is not looked at (log 36). -/
def convertFrame (c : Cfg) (f : List U16) (now : BitVec 64) : Option (Measurement × Bool) :=
  match frameReg f c.vIdx, frameReg f c.iIdx with
  | some v, some i => some (measurementOf c v i now, alertOf c (measurementOf c v i now).current)
  | _, _ => none

/-- SP.PUBLISH (R276): all six elements of the slot at once (R72). -/
def publish (m : Measurement) (alert : Bool) (s : State) : State :=
  s.setSnap { valid := true, voltage := m.voltage, current := m.current, power := m.power, timestamp := m.timestamp,
              alert := alert }

/-- The Measurement in the slot. -/
def snapMeasurement (n : Snap) : Measurement :=
  { voltage := n.voltage, current := n.current, power := n.power, timestamp := n.timestamp }

/-- The optional Measurement the intent carries (R327): present iff `snap.valid`. -/
def intentMeasurement (n : Snap) : Option Measurement := if n.valid then some (snapMeasurement n) else none

/-! ### Meanings -/

/-- `SP.CONVERT f` (R271): `f` is `regframe` with `regframe_valid` = 1, and is consumed. Without a frame, or without one of the
two registers in it, the read is of an element that holds no value (R64, D44, U2). -/
def execSpConvert (f : FrameRef) (s : State) : Host.Outcome State Fault Refusal :=
  match frameOperand f s with
  | none => .fault (.noValue .regframe)
  | some regs =>
    match convertFrame s.cfg regs s.now with
    | some (m, alert) => .next ((s.setRegframeValid false).setRes (.measurement m alert))
    | none => .fault (.noValue .regframe)

/-- `SP.PUBLISH m, alert` (R276), with the operands as they stand (log 41). -/
def execSpPublish (m : Measurement) (alert : Bool) (s : State) : Host.Outcome State Fault Refusal :=
  .next ((publish m alert s).setRes .none)

end Sys2Proof.Machine
end

