-- ==== Sys2Proof/Machine/Display.lean ====
section
/-! DEFINITION. The display state machine and the blink timer (46_display_fsm.md R310 to R330). -/

namespace Sys2Proof.Machine

/-- `disp.mode ← Media(i)`, `disp.dwell ← 0` (R316, R317). -/
def showMedia (i : Nat) (s : State) : State := s.setDisp { mode := .media i, dwell := 0 }

/-- `disp.mode ← Sensor`, `disp.dwell ← 0` (R318). -/
def showSensor (s : State) : State := s.setDisp { mode := .sensor, dwell := 0 }

/-- A Button Event of pin `p` (R310 step 2): what `pinmap` says of it. -/
def buttonEvent (s : State) (p : Nat) : State :=
  match pinUse s.cfg p with
  | .media i => showMedia i s
  | .sensor => showSensor s
  | .unmapped => s

/-- DSM.TICK on the display state (R314, R315). -/
def dwellTick (c : Cfg) (d : Disp) : Disp :=
  match d.mode with
  | .startup i =>
    if c.startupN ≤ d.dwell + 1 then
      { mode := if c.nMedia ≤ i + 1 then .sensor else .startup (i + 1), dwell := 0 }
    else { d with dwell := d.dwell + 1 }
  | .media _ => d
  | .sensor => d

/-- DSM.MEAS (R322): the slot is read whole and the intent carries its Measurement (R327). -/
def readSnapshot (s : State) : State := s.setOut { s.out with meas := intentMeasurement s.snap }

/-- BLK.TICK (R323, R324, R325). -/
def blinkTick (c : Cfg) (a : Bool) (b : Blink) : Blink :=
  if a then
    if b.armed then
      if c.blinkN ≤ b.cnt + 1 then { b with visible := !b.visible, cnt := 0 } else { b with cnt := b.cnt + 1 }
    else { visible := true, cnt := 0, armed := true }
  else { visible := c.blinkIdle, cnt := 0, armed := false }

/-- The end of a ui tick (R327): the outputs take the mode and the blink flag. -/
def driveIntent (s : State) : State := s.setOut { s.out with mode := s.disp.mode, blink := s.blink.visible }

/-- One ui tick (R310): samples, events in ascending pin order, startup tick, snapshot and blink, outputs. -/
def uiTick (raw : List Bool) (s : State) : State :=
  let smp := sampleAll s.cfg.debounceN raw s.db
  let a := smp.2.foldl buttonEvent (s.setDb smp.1)
  let b := a.setDisp (dwellTick a.cfg a.disp)
  let c := readSnapshot b
  let d := c.setBlink (blinkTick c.cfg c.snap.alert c.blink)
  driveIntent d

/-! ### Meanings -/

/-- `UI.TICK raw` (R310): a presented one is one more ui tick, which the divider does not know of (log 44). -/
def execUiTick (raw : List Bool) (s : State) : Host.Outcome State Fault Refusal := .next ((uiTick raw s).setRes .none)

/-- `DSM.TICK` (R314, R315). -/
def execDsmTick (s : State) : Host.Outcome State Fault Refusal :=
  .next ((s.setDisp (dwellTick s.cfg s.disp)).setRes .none)

/-- `DSM.BTN_MEDIA i` (R316): `i` in 0..N_MEDIA−1 (R312). -/
def execDsmBtnMedia (i : Nat) (s : State) : Host.Outcome State Fault Refusal :=
  if mediaIndexOk s.cfg i then .next ((showMedia i s).setRes .none) else .refused .mediaIndexOutOfRange

/-- `DSM.BTN_SENSOR` (R318). -/
def execDsmBtnSensor (s : State) : Host.Outcome State Fault Refusal := .next ((showSensor s).setRes .none)

/-- `DSM.MEAS` (R322): it has no result (R106), and reads no value field while `snap.valid` = 0 (R64). -/
def execDsmMeas (s : State) : Host.Outcome State Fault Refusal :=
  .next ((readSnapshot s).setRes .none)

/-- `BLK.TICK a` (R323 to R325), for the Alert State `a` the word carries (log 44). -/
def execBlkTick (a : Bool) (s : State) : Host.Outcome State Fault Refusal :=
  .next ((s.setBlink (blinkTick s.cfg a s.blink)).setRes .none)

end Sys2Proof.Machine
end

