-- ==== Sys2Proof/Machine/Codec.lean ====
section
/-! DEFINITION. The frame codec (41_frame_codec.md R160 to R174). -/

namespace Sys2Proof.Machine

/-! ### Encoder -/

/-- The eight bytes ENC.RDREQ builds (R160). -/
def requestBytes (slave : Byte) (start count : U16) : List Byte :=
  let c := crc16 (reqBody slave start count)
  reqBytes slave start count (loByte c) (hiByte c)

/-- ENC.RDREQ as an operation on the state (R160): it writes `txbuf` and `crc`, also while a poll of the block itself is sending
what stood in `txbuf` (log 45). -/
def encodeRequest (slave : Byte) (start count : U16) (s : State) : State :=
  (s.setTx (Memory.writeN s.tx 0 (requestBytes slave start count))).setCrc (crc16 (reqBody slave start count))

/-! ### Decoder -/

/-- What the CRC of a received frame covers: all but its last two bytes (R98). -/
def frameBody (buf : List Byte) : List Byte := buf.take (buf.length - 2)

/-- Byte `i` of a frame; every use below is within its length. -/
def frameByte (buf : List Byte) (i : Nat) : Byte := buf.getD i 0

/-- The checks of R166, in that order (R167 to R172). `2 × n` is computed on naturals (R99). -/
def decodeResponse (buf : List Byte) (slave : Byte) (n : U16) : DecodeResult :=
  let len := buf.length
  if len < 5 then .err .shortFrame
  else if crcMatches (crc16 (frameBody buf)) (frameByte buf (len - 2)) (frameByte buf (len - 1)) = false then
    .err .crcMismatch
  else if frameByte buf 0 ≠ slave then .err .slaveMismatch
  else if (frameByte buf 1).getLsbD 7 then .err (.exceptionResponse (frameByte buf 2))
  else if (frameByte buf 2).toNat ≠ 2 * n.toNat ∨ len ≠ 5 + 2 * n.toNat then .err .shortFrame
  else .ok (pairRegs ((buf.drop 3).take (2 * n.toNat)))

/-- `crc` after DEC.RESP: check 1 comes before the CRC is computed (R166), every other result after it (R165). -/
def crcAfterDecode (c : U16) (buf : List Byte) : U16 := if buf.length < 5 then c else crc16 (frameBody buf)

/-- DEC.RESP as an operation on the state (R165): it writes `crc`, and on `Ok` `regframe` and `regframe_valid`, also over a frame
that has not been consumed (log 39). -/
def decodeInto (buf : List Byte) (slave : Byte) (n : U16) (s : State) : State × DecodeResult :=
  let s1 := s.setCrc (crcAfterDecode s.crc buf)
  match decodeResponse buf slave n with
  | .ok f => ((s1.setRegframe f).setRegframeValid true, .ok f)
  | .err e => (s1, .err e)

/-! ### Meanings -/

/-- `ENC.RDREQ s, a, n` (R160). -/
def execEncRdreq (slave : Byte) (start count : U16) (s : State) : Host.Outcome State Fault Refusal :=
  .next ((encodeRequest slave start count s).setRes (.bytes (requestBytes slave start count)))

/-- `DEC.RESP buf, s, n` (R165). -/
def execDecResp (buf : List Byte) (slave : Byte) (n : U16) (s : State) : Host.Outcome State Fault Refusal :=
  let d := decodeInto buf slave n s
  .next (d.1.setRes (.decoded d.2))

end Sys2Proof.Machine
end

