-- ==== Sys2Proof/Machine/Uart.lean ====
section
/-! DEFINITION. The UART at bit level (42_transport_uart.md R200, R201; 30_encoding.md R96): transmitter, receiver, and the
link oracle's answer as a waveform (R205). -/

namespace Sys2Proof.Machine

/-! ### Transmitter -/

/-- The levels of byte `d` in the configured layout, in time order (R96). -/
def charLevels (c : Cfg) (d : Byte) : List Bool := frameLevels d (parityBit c.parity d) c.stopBits

/-- Levels in time order as a shift register, the first in bit 0. -/
def packLevels (ls : List Bool) : BitVec 12 := (BitVec.ofBoolListLE ls).setWidth 12

/-- Hand a byte to the idle transmitter (R195, R200): the start bit is on the line from the next tick on. -/
def loadChar (d : Byte) (s : State) : State :=
  let sh := packLevels (charLevels s.cfg d)
  (s.setUtx { shift := sh, bitcnt := 0, tickcnt := 0, busy := true }).setUartTxd (sh.getLsbD 0)

/-- The levels a busy transmitter still has to put on the line, one a tick. -/
def utxLeft (c : Cfg) (u : Utx) : List Bool :=
  ((List.range (charBits c - u.bitcnt)).flatMap fun j => List.replicate c.bitTicks (u.shift.getLsbD j)).drop u.tickcnt

/-- Let the transmitter finish: `utx.busy` falls after the last tick of the last stop bit, and `uart_txd` rests at 1
(R196, R200). -/
def drain (s : State) : State :=
  if s.utx.busy then
    let left := utxLeft s.cfg s.utx
    let p := busyPass left.length s
    ((p.setUtx utxOff).setUartTxd true).setEnv { p.env with txdLog := p.env.txdLog ++ left }
  else s

/-- Send one character whole (R200): when the transmitter is free, `CHAR_BITS` bit times of `BIT_TICKS` ticks. -/
def sendChar (d : Byte) (s : State) : State := drain (loadChar d (drain s))

/-- One tick of the transmitter: the next level when a bit time ends, rest after the last (R200). -/
def utxTick (c : Cfg) (u : Utx) (txd : Bool) : Utx × Bool :=
  if u.busy then
    if u.tickcnt + 1 < c.bitTicks then ({ u with tickcnt := u.tickcnt + 1 }, txd)
    else if u.bitcnt + 1 < charBits c then
      ({ u with shift := u.shift >>> 1, bitcnt := u.bitcnt + 1, tickcnt := 0 }, (u.shift >>> 1).getLsbD 0)
    else (utxOff, true)
  else (u, txd)

/-! ### Receiver -/

/-- Bit time of the first stop bit. -/
def stopIndex (c : Cfg) : Nat := if c.parity = .none then 9 else 10

/-- What the sampled bits are (R201): an error if the first stop bit is 0 or the parity bit is not the one R96 gives the
sampled data, otherwise the byte. -/
def sampledItem (c : Cfg) (sh : BitVec 12) : LinkItem :=
  let d : Byte := sh.extractLsb' 1 8
  if sh.getLsbD (stopIndex c) = false then .error
  else
    match parityBit c.parity d with
    | none => .byte d
    | some p => if sh.getLsbD 9 = p then .byte d else .error

/-- One tick of the receiver with `uart_rxd` at `rxd` (R201): the receiver after it, and the character that ended in it. A
tick at 0 while no character is in progress begins a start bit; each bit is sampled `BIT_TICKS / 2` ticks after it began; a
start bit sampled 1 is dropped. Between two characters `urx.shift` keeps the samples of the last one (log 30). -/
def urxTick (c : Cfg) (rxd : Bool) (u : Urx) : Urx × Option LinkItem :=
  if u.enable = false ∨ (u.busy = false ∧ rxd = true) then (u, none)
  else
    let v : Urx := if u.busy then u else { u with shift := 0, bitcnt := 0, tickcnt := 0, busy := true }
    let mid := decide (v.tickcnt = c.bitTicks / 2)
    if mid && decide (v.bitcnt = 0) && rxd then
      ({ u with shift := 0, bitcnt := 0, tickcnt := 0, busy := false }, none)
    else
      let sh := if mid && rxd then v.shift ||| (1 <<< v.bitcnt) else v.shift
      if v.tickcnt + 1 < c.bitTicks then ({ v with shift := sh, tickcnt := v.tickcnt + 1 }, none)
      else if v.bitcnt + 1 < charBits c then ({ v with shift := sh, bitcnt := v.bitcnt + 1, tickcnt := 0 }, none)
      else ({ v with shift := sh, bitcnt := 0, tickcnt := 0, busy := false }, some (sampledItem c sh))

/-- The receiver at receive-enable (R198). -/
def urxOn : Urx := { urxOff with enable := true }

/-- Ticks of a start bit that turned out to be a glitch in this tick (R201): they belong to the silence (log 13). -/
def glitchTicks (before after : Urx) (item : Option LinkItem) : Nat :=
  if before.busy && !after.busy && item.isNone then before.tickcnt + 1 else 0

/-- Idle ticks before the next character after one more tick, `gap` before it. -/
def gapAfter (gap : Nat) (before after : Urx) (item : Option LinkItem) : Nat :=
  if after.busy then gap
  else if before.busy then gap + glitchTicks before after item
  else gap + 1

/-- The receiver's view of a waveform (last sentence of R201): each character with the idle ticks before it. -/
def viewFrom (c : Cfg) (u : Urx) (gap : Nat) : List Bool → Answer
  | [] => []
  | l :: ls =>
    let t := urxTick c l u
    match t.2 with
    | some item => (gap, item) :: viewFrom c t.1 0 ls
    | none => viewFrom c t.1 (gapAfter gap u t.1 none) ls

/-- The receiver's view of the line from receive-enable on; after `line` it is idle, which lets a character in progress
end. -/
def receiverView (c : Cfg) (line : List Bool) : Answer :=
  viewFrom c urxOn 0 (line ++ List.replicate (charTicks c) true)

/-- The levels of a character in error: a parity bit that does not match or, without parity, a stop bit of 0 (R201, R203;
log 14). -/
def errorLevels (c : Cfg) : List Bool :=
  match parityBit c.parity 0xFF with
  | some p => frameLevels 0xFF (some (!p)) c.stopBits
  | none => (false :: dataBits 0xFF) ++ (false :: List.replicate (c.stopBits - 1) true)

/-- The levels of one item. -/
def itemLevels (c : Cfg) : LinkItem → List Bool
  | .byte d => charLevels c d
  | .error => errorLevels c

/-- An answer of the link oracle as a waveform, one level a tick (R205): the gap at 1, then the character. -/
def renderAnswer (c : Cfg) (ev : Answer) : List Bool :=
  ev.flatMap fun (gap, item) => List.replicate gap true ++ (itemLevels c item).flatMap (List.replicate c.bitTicks)

/-- The receiver after a waveform, and `tr.idle_cnt` after it (R209): a tick with `uart_rxd` at 0 or with a character in
progress clears it. -/
def receiveRun (c : Cfg) (levels : List Bool) (u : Urx) (idle : Nat) : Urx × Nat :=
  levels.foldl (fun (acc : Urx × Nat) l =>
    ((urxTick c l acc.1).1, if l && !acc.1.busy then min (t35Ticks c) (acc.2 + 1) else 0)) (u, idle)

/-- `n` ticks of a line that carries `line` and is idle after it, as far as a receiver can still be busy. -/
def lineFor (c : Cfg) (line : List Bool) (n : Nat) : List Bool := (line ++ List.replicate (charTicks c) true).take n

/-- `tr.idle_cnt` after `n` ticks of reception (R209). -/
def idleAfterReceive (c : Cfg) (idle : Nat) (line : List Bool) (n : Nat) (u : Urx) : Nat :=
  let heard := lineFor c line n
  min (t35Ticks c) ((receiveRun c heard u idle).2 + (n - heard.length))

/-- Until the next character ends: the number of ticks and the character; none when the line carries no further one. -/
def nextChar (c : Cfg) (u : Urx) : List Bool → Option (Nat × LinkItem)
  | [] => none
  | l :: ls =>
    let t := urxTick c l u
    match t.2 with
    | some item => some (1, item)
    | none => (nextChar c t.1 ls).map fun (n, item) => (n + 1, item)

/-- Receive one character (R201). With no character on the line nothing happens (log 15). Inside a reception the character goes
to the result only: it is neither stored nor counted as seen, an error among them does not set `tr.io_err`, and a reception
that is already over stays over (log 42). -/
def receiveChar (s : State) : State × Option LinkItem :=
  match nextChar s.cfg s.urx (s.env.line ++ List.replicate (charTicks s.cfg) true) with
  | none => (s, none)
  | some (n, item) =>
    let p := passTicks n s
    let u := (receiveRun s.cfg (lineFor s.cfg s.env.line n) s.urx s.tr.idleCnt).1
    ((p.setUrx u).setTr { p.tr with
      idleCnt := idleAfterReceive s.cfg s.tr.idleCnt s.env.line n s.urx
      silenceCnt := if receptionOver s then s.tr.silenceCnt else 0 }, some item)

/-! ### Meanings -/

/-- `UART.TXCHAR d` (R200), whatever `dir_state` is (log 40). -/
def execUartTxchar (d : Byte) (s : State) : Host.Outcome State Fault Refusal :=
  .next ((sendChar d s).setRes .none)

/-- `UART.RXCHAR` (R201): the result is the byte or the error. It writes no element of a reception but its silence (log 42). -/
def execUartRxchar (s : State) : Host.Outcome State Fault Refusal :=
  let r := receiveChar s
  .next (r.1.setRes (.character r.2))

end Sys2Proof.Machine
end

