-- ==== Sys2Proof/Machine/Transport.lean ====
section
/-! DEFINITION. The transaction (42_transport_uart.md R190 to R199, R202 to R212): the six steps, each run to its end, and
the reception of R199. The same steps tick by tick are in Machine/Tick.lean. -/

namespace Sys2Proof.Machine

/-! ### TR.GAP -/

/-- How many ticks until `idle_cnt ≥ t`, on a line that carries `line` and is idle after it (R193, R209). -/
def gapTicks (t : Nat) : Nat → List Bool → Nat
  | c, [] => t - c
  | c, l :: ls => if t ≤ c then 0 else 1 + gapTicks t (if l then min t (c + 1) else 0) ls

/-- Wait until the line has been idle for `T35_TICKS` (R193). A transaction that has just ended is left first (R191, R208). The
direction stays as it is: at transmit, if a transaction that was sending has been given up (log 22, log 37). -/
def waitGap (s : State) : State :=
  let w := (leaveDone (drain s)).enterPhase .gap
  idlePass (gapTicks (t35Ticks w.cfg) w.tr.idleCnt w.env.line) w

/-! ### TR.TXEN, TR.WRITE, TR.FLUSH -/

/-- `dir_state ← 1`, `tr.phase ← TX`, `tr.txidx ← 0`; the receiver is disabled (R194). -/
def assertDir (s : State) : State :=
  let w := s.enterPhase .tx
  (w.setDirState true).setTr { w.tr with txidx := 0 }

/-- Send one request byte and count it (R195). -/
def sendCounted (s : State) (d : Byte) : State :=
  let w := sendChar d s
  w.setTr { w.tr with txidx := w.tr.txidx + 1 }

/-- Hand the request bytes from `tr.txidx` on to the UART, back to back (R195; TR.TXEN has set the index to 0, log 22). -/
def writeRequest (req : List Byte) (s : State) : State := (req.drop s.tr.txidx).foldl sendCounted s

/-- Phase FLUSH: until `utx.busy` = 0 (R196). -/
def flushTx (s : State) : State := drain (s.enterPhase .flush)

/-! ### TR.RXEN -/

/-- `dir_state ← 0`, `tr.phase ← TURN`, `tr.turn_cnt ← 0` (R197). -/
def releaseDir (s : State) : State := (s.enterPhase .turn).setDirState false

/-- Receive-enable (R198): the receiver is on, the buffer and the reception's counters are empty; the link oracle's answer
to this transaction, if it has one, is on the line from here (R205). -/
def receiveEnable (s : State) : State :=
  { s with
    tr := { s.tr with phase := .rx, turnCnt := 0, silenceCnt := 0, timeoutCnt := 0, ioErr := false }
    urx := urxOn
    rx := []
    rxlen := 0
    env :=
      match s.env.answers with
      | [] => s.env
      | ev :: rest => { s.env with line := renderAnswer s.cfg ev, answers := rest } }

/-- TR.RXEN (R197, R198): on the tick after the flush the direction is released, then the turnaround, then receive-enable. -/
def enableReceive (s : State) : State :=
  let released := releaseDir (idlePass 1 (drain s))
  receiveEnable (idlePass released.cfg.turnaround released)

/-! ### TR.READ -/

/-- What a reception gives (R199): the accepted bytes, whether a character was in error, how and at which tick it ended. -/
structure Reception where
  bytes : List Byte
  ioErr : Bool
  reason : EndReason
  endTick : Nat
deriving DecidableEq, Repr

/-- The numbers a reception is bounded by: `T35_TICKS`, `CHAR_TICKS`, `RESP_TIMEOUT_TICKS`, `m`. -/
structure RxBounds where
  t35 : Nat
  charTicks : Nat
  timeout : Nat
  m : Nat
deriving DecidableEq, Repr

/-- The end by silence at `t + T35_TICKS`; the overall timeout bounds it (R199, R207; log 12). -/
def silenceEnd (b : RxBounds) (t : Nat) (acc : List Byte) (err : Bool) : Reception :=
  if t + b.t35 ≤ b.timeout then ⟨acc, err, .silence, t + b.t35⟩ else ⟨acc, err, .timeout, b.timeout⟩

/-- The loop of R199 over the answer `ev`: `t` ticks since receive-enable, `seen` whether a character has ended, `acc` the
bytes accepted, `err` the error flag. -/
def receiveLoop (b : RxBounds) (t : Nat) (seen : Bool) (acc : List Byte) (err : Bool) : Answer → Reception
  | [] => if seen then silenceEnd b t acc err else ⟨acc, err, .timeout, b.timeout⟩
  | (gap, item) :: ev =>
    if seen = true ∧ b.t35 ≤ gap then silenceEnd b t acc err
    else
      let e := t + gap + b.charTicks
      if b.timeout < e then ⟨acc, err, .timeout, b.timeout⟩
      else
        let acc' := match item with | .byte d => acc ++ [d] | .error => acc
        let err' := match item with | .byte _ => err | .error => true
        if acc'.length = b.m then ⟨acc', err', .maxlen, e⟩
        else receiveLoop b e true acc' err' ev

/-- The bounds of a reception in configuration `c`. -/
def rxBounds (c : Cfg) (m : Nat) : RxBounds :=
  { t35 := t35Ticks c, charTicks := charTicks c, timeout := c.respTimeout, m := m }

/-- What the block hears from receive-enable on: the receiver's view of the line (R201, R205), and nothing with the receiver
off (R79). -/
def heard (s : State) : Answer := if s.urx.enable then receiverView s.cfg s.env.line else []

/-- The reception of R199 from state `s`. -/
def reception (m : Nat) (s : State) : Reception := receiveLoop (rxBounds s.cfg m) 0 false [] false (heard s)

/-- The result of a transaction (R202). -/
def transportResult (ioErr : Bool) (bytes : List Byte) : TransportResult :=
  if ioErr then .err .ioFailure else if bytes.length = 0 then .err .timeout else .ok bytes

/-- TR.READ (R199): the ticks of the reception pass, `rxbuf`, `rxlen` and `tr.io_err` hold what it gave, the receiver is
disabled and the phase is DONE. The direction stays as it is: only TR.RXEN releases it, so a TR.READ presented with it asserted
leaves it asserted, past DONE too (R197, R208; log 22). -/
def readResponse (m : Nat) (s : State) : State :=
  let r := reception m s
  let p := passTicks r.endTick s
  let w := p.setTr { p.tr with
    idleCnt := idleAfterReceive s.cfg s.tr.idleCnt s.env.line r.endTick (if s.urx.enable then urxOn else urxOff) }
  let e := w.enterPhase .done
  ((e.setRx (Memory.writeN [] 0 r.bytes)).setRxlen r.bytes.length).setTr { e.tr with ioErr := r.ioErr }

/-! ### TR.TRANSACT -/

/-- The six steps in order, with `tr.max_len` = `m` (R190, R107). The phase is then DONE, for one tick (R191, R208). The bytes of
`req` go out as they stand (log 43). -/
def transact (req : List Byte) (m : Nat) (s : State) : State × TransportResult :=
  let a := waitGap s
  let b := flushTx (writeRequest req (assertDir (a.setTr { a.tr with maxLen := m })))
  let c := enableReceive b
  let r := reception m c
  (readResponse m c, transportResult r.ioErr r.bytes)

/-! ### Meanings -/

/-- `TR.TRANSACT req, m` (R190). A presented word may carry any eight bytes, also such as are no `REQ` frame (R100) or not those
of `txbuf` (R190): they are sent as they stand (log 43). -/
def execTrTransact (req : List Byte) (m : Nat) (s : State) : Host.Outcome State Fault Refusal :=
  let r := transact req m s
  .next (r.1.setRes (.transport r.2))

/-- `TR.GAP` (R193). -/
def execTrGap (s : State) : Host.Outcome State Fault Refusal := .next ((waitGap s).setRes .none)

/-- `TR.TXEN` (R194). -/
def execTrTxen (s : State) : Host.Outcome State Fault Refusal := .next ((assertDir s).setRes .none)

/-- `TR.WRITE` (R195): the request is `txbuf[0..7]`; before the first ENC.RDREQ it holds no value (R64). -/
def execTrWrite (s : State) : Host.Outcome State Fault Refusal :=
  match txOperand s with
  | some req => .next ((writeRequest req s).setRes .none)
  | none => .fault (.noValue .txbuf)

/-- `TR.FLUSH` (R196). -/
def execTrFlush (s : State) : Host.Outcome State Fault Refusal := .next ((flushTx s).setRes .none)

/-- `TR.RXEN` (R197, R198). -/
def execTrRxen (s : State) : Host.Outcome State Fault Refusal := .next ((enableReceive s).setRes .none)

/-- Format `REQ` (R92): the frame goes onto the line as a request does (R210): direction asserted, its eight characters,
flushed. It asserts the direction at once: the silence that R193 and R410 put before a request is TR.GAP's, and no rule gives this
word a TR.GAP (log 4). A transaction of the block itself that is under way goes on from FLUSH (log 45). -/
def execReq (slave : Byte) (start count : U16) (crcLo crcHi : Byte) (s : State) : Host.Outcome State Fault Refusal :=
  .next ((flushTx (writeRequest (reqBytes slave start count crcLo crcHi) (assertDir s))).setRes .none)

/-- `TR.READ` (R199, R202): `m` is `tr.max_len`, which holds no value outside a transaction (R64). A transmitter that is busy
finishes first (log 29). What it hears and the direction it leaves out of its order is log 22. -/
def execTrRead (s : State) : Host.Outcome State Fault Refusal :=
  if s.tr.phase = .idle then .fault (.noValue .maxLen)
  else
    let w := drain s
    let r := reception w.tr.maxLen w
    .next ((readResponse w.tr.maxLen w).setRes (.transport (transportResult r.ioErr r.bytes)))

end Sys2Proof.Machine
end

