-- ==== Sys2Proof/Machine/Master.lean ====
section
/-! DEFINITION. The Modbus master (43_modbus_master.md R240 to R253): the poll with its retry policy and the poll cycle,
each run to its end. The same sequence tick by tick is in Machine/Tick.lean. -/

namespace Sys2Proof.Machine

/-- One attempt (R242): a transaction and, if it delivered bytes, the decoder. -/
def attempt (req : List Byte) (slave : Byte) (n : U16) (s : State) : State × AttemptResult :=
  let t := transact req (maxLenOf n.toNat) (s.setMstPhase .transact)
  match t.2 with
  | .ok bytes =>
    let d := decodeInto bytes slave n (t.1.setMstPhase .decode)
    (d.1, .decoded d.2)
  | .err e => (t.1, .transport e)

/-- The attempts of a poll (R242, R244, R245): `k` retries are still allowed. -/
def attempts (req : List Byte) (slave : Byte) (n : U16) : Nat → State → State × PollResult
  | 0, s =>
    let a := attempt req slave n s
    match verdict a.2 with
    | .success f => (a.1, .ok f)
    | .reject => (a.1, .err .protocolFault)
    | .retry => (a.1, .err .unreachable)
  | k + 1, s =>
    let a := attempt req slave n s
    match verdict a.2 with
    | .success f => (a.1, .ok f)
    | .reject => (a.1, .err .protocolFault)
    | .retry => attempts req slave n k (returnFromError (idlePass a.1.cfg.backoff (takeError a.1)))

/-- MST.POLL (R242): the request is encoded once; at most `1 + RETRY_COUNT` attempts (R243). -/
def poll (slave : Byte) (start n : U16) (s : State) : State × PollResult :=
  let e := encodeRequest slave start n (s.setMstPhase .encode)
  attempts (requestBytes slave start n) slave n e.cfg.retryCount (e.setMst { e.mst with attempt := 0 })

/-- The configured poll's count and start register, as MST.CYCLE passes them (R248). -/
def configuredPoll (s : State) : State × PollResult := poll s.cfg.slaveId s.cfg.startReg (countOperand s.cfg) s

/-- The beginning of a cycle (R248): wait for the interval, then count from 0. A transmitter that is busy finishes first
(log 29). A cycle of the block itself that is under way is given up: its frame, the Transport's phase and the direction stay as
they are (log 37). -/
def awaitInterval (s : State) : State :=
  let d := drain (s.setMstPhase .wait)
  let w := idlePass (d.cfg.pollInterval - d.mst.intervalCnt) d
  w.setMst { w.mst with intervalCnt := 0 }

/-- CONVERT (R248, R249): the frame goes through SP.CONVERT once and the result is published once; the frame is consumed
(R24). -/
def convertPublish (f : List U16) (s : State) : Host.Outcome State Fault Refusal :=
  match convertFrame s.cfg f s.now with
  | some (m, alert) => .next ((publish m alert (s.setRegframeValid false)).setMstPhase .report)
  | none => .fault (.noValue .regframe)

/-- What follows a poll in its cycle (R248 to R250): on success convert and publish, on failure nothing. -/
def afterPoll (r : PollResult) (s : State) : Host.Outcome State Fault Refusal :=
  match r with
  | .err _ => .next (endPoll r s)
  | .ok f => convertPublish f (endPoll r s)

/-! ### Meanings -/

/-- `MST.POLL s, a, n` (R240); it has no rule for operands that are not valid (R241). Presented by itself it is part of no
cycle: the master then waits for the next one, and a cycle under way is given up, its frame left as it is (log 37). -/
def execMstPoll (slave : Byte) (start n : U16) (s : State) : Host.Outcome State Fault Refusal :=
  if validPoll s.cfg slave start n then
    let r := poll slave start n s
    .next ((r.1.setMstPhase .wait).setRes (.poll r.2))
  else .refused .invalidPollOperands

/-- `MST.CYCLE` (R248): one cycle, from the wait for the interval to the report (R252). -/
def execMstCycle (s : State) : Host.Outcome State Fault Refusal :=
  let r := configuredPoll (awaitInterval s)
  match afterPoll r.2 r.1 with
  | .next t => .next ((reportPoll t).setRes .none)
  | .fault e => .fault e
  | .refused e => .refused e

end Sys2Proof.Machine
end

