-- ==== Sys2Proof/Machine/Tick.lean ====
section
/-! DEFINITION. The block running by itself: one clock tick (00_scope.md R9, 60_exceptions.md R368), the moves of the poll
agent between ticks (42_transport_uart.md R191, 43_modbus_master.md R242, R248), and the ui ticks (R310). Every value a move
computes is computed by the operation the rule names; only the waiting is done tick by tick here (log 11). -/

namespace Sys2Proof.Machine

/-! ### One tick -/

/-- The reception's part of a tick (R199, R203): nothing once it is over (R204, R207); a character that ended is stored or sets
`tr.io_err` and starts the silence anew; otherwise the tick counts for the silence unless a character is in progress. `before`
is the state before the tick, `s` the state with the UART after it. The bound on the silence is never reached by counting: at
`T35_TICKS` the reception is over. -/
def receptionTick (before : State) (item : Option LinkItem) (s : State) : State :=
  if receptionOver before then s
  else
    let timeout := s.tr.timeoutCnt + 1
    match item with
    | some (.byte d) =>
      ((s.setRx (Memory.write s.rx s.rxlen d)).setRxlen (s.rxlen + 1)).setTr
        { s.tr with timeoutCnt := timeout, silenceCnt := 0 }
    | some .error => s.setTr { s.tr with timeoutCnt := timeout, silenceCnt := 0, ioErr := true }
    | none =>
      let silence :=
        if seenChar s && !charInProgress s then min (t35Ticks s.cfg) (s.tr.silenceCnt + 1) else s.tr.silenceCnt
      s.setTr { s.tr with timeoutCnt := timeout, silenceCnt := silence }

/-- The Transport's part of a tick: the counter of its phase (R25), the release of the direction on the tick after the
flush, which is still of phase FLUSH (R197; log 35), the end of DONE (R191). `s` is the state with the UART after the tick.
`tr.turn_cnt` is held at its limit until the agent moves (log 30). -/
def transportTick (before : State) (item : Option LinkItem) (s : State) : State :=
  match before.tr.phase with
  | .done => s.setTr { s.tr with phase := .idle }
  | .turn => s.setTr { s.tr with turnCnt := min s.cfg.turnaround (s.tr.turnCnt + 1) }
  | .flush => if before.utx.busy then s else releaseDir s
  | .rx => receptionTick before item s
  | .idle | .gap | .tx => s

/-- The master's part of a tick: the interval counter held at its limit, the backoff counter (R28), which is held at its limit
until the agent moves (log 30). -/
def masterTick (c : Cfg) (m : Mst) : Mst :=
  { m with
    intervalCnt := min c.pollInterval (m.intervalCnt + 1)
    backoffCnt := if m.phase = .backoff then min c.backoff (m.backoffCnt + 1) else m.backoffCnt }

/-- The UART's part of a tick with `uart_rxd` at `rxd`: transmitter, receiver, `tr.idle_cnt` (R200, R201, R209), and the
record of what `uart_txd` carried. -/
def uartTick (rxd : Bool) (s : State) : State :=
  let tx := utxTick s.cfg s.utx s.uartTxd
  { s with
    utx := tx.1
    uartTxd := tx.2
    urx := (urxTick s.cfg rxd s.urx).1
    tr := { s.tr with idleCnt := if lineIdle s rxd then min (t35Ticks s.cfg) (s.tr.idleCnt + 1) else 0 }
    env := { s.env with
      line := s.env.line.tail
      rstNext := s.env.rstNext.tail
      txdLog := if s.utx.busy then s.env.txdLog ++ [s.uartTxd] else s.env.txdLog } }

/-- One tick of the poll agent and the line with `uart_rxd` at `rxd`. -/
def tickWith (rxd : Bool) (s : State) : State :=
  let u := (uartTick rxd s).setNow (s.now + 1)
  transportTick s (urxTick s.cfg rxd s.urx).2 ((u.setMst (masterTick s.cfg s.mst)).setPollDone false)

/-- The ui-tick divider (R9, R360): every `UI_TICK_TICKS`-th tick begins a ui tick. -/
def dividerTick (c : Cfg) (u : UiClock) : UiClock :=
  if c.uiTickTicks ≤ u.div + 1 then { div := 0, due := true } else { u with div := u.div + 1 }

/-- `n` ticks of the poll agent and the line, with `uart_rxd` as the line carries it. -/
def lineTicks : Nat → State → State
  | 0, s => s
  | n + 1, s => lineTicks n (tickWith (rxdPort s) s)

/-- One tick of the clock with `rst` at 0. -/
def tick (s : State) : State := (tickWith (rxdPort s) s).setUi (dividerTick s.cfg s.ui)

/-- One tick of the clock with `rst` at 1 (R400): every element holds its reset value. -/
def resetTick (s : State) : State :=
  State.resetOf s.cfg { s.env with line := s.env.line.tail, rstNext := s.env.rstNext.tail }

/-! ### Moves of the poll agent -/

/-- A transaction begins (R190, R191): phase GAP, with the expected maximum length (R204), at most 255 (log 34). -/
def startTransaction (s : State) : State := (s.enterPhase .gap).setMst { s.mst with held := false }

/-- An attempt begins (R242): its transaction does, after the tick of DONE if the one before it has only just ended (R191,
R208; log 38). -/
def beginAttempt (s : State) : State :=
  if s.tr.phase = .done then s.setMst { s.mst with held := true } else startTransaction s

/-- The interval has elapsed: a cycle starts (R248). -/
def startCycle (s : State) : State := s.setMst { s.mst with phase := .encode, intervalCnt := 0 }

/-- Phase ENCODE (R242): the request, `mst.attempt ← 0`, the first attempt. -/
def encodeMove (s : State) : State :=
  let e := encodeRequest s.cfg.slaveId s.cfg.startReg (countOperand s.cfg) s
  beginAttempt (e.setMst { e.mst with phase := .transact, attempt := 0 })

/-- The free transmitter gets the next request byte; when the last has been handed over the phase is FLUSH (R195, R196; log 35). -/
def handByte (d : Byte) (s : State) : State :=
  let w := loadChar d s
  let k := w.setTr { w.tr with txidx := w.tr.txidx + 1 }
  if w.tr.txidx + 1 = 8 then k.enterPhase .flush else k

/-- The choice of R242 after an attempt (R244). -/
def afterAttempt (o : AttemptResult) (s : State) : State :=
  match verdict o with
  | .success f => endPoll (.ok f) s
  | .reject => endPoll (.err .protocolFault) s
  | .retry => if s.mst.attempt < s.cfg.retryCount then takeError s else endPoll (.err .unreachable) s

/-- Phase DONE: the master takes the transaction's result (R202, R242). -/
def takeResult (s : State) : Host.Outcome State Fault Refusal :=
  match rxOperand s with
  | none => .fault (.noValue .rxbuf)
  | some bytes =>
    match transportResult s.tr.ioErr bytes with
    | .ok _ => .next (s.setMstPhase .decode)
    | .err e => .next (afterAttempt (.transport e) s)

/-- Phase DECODE (R242). -/
def decodeMove (s : State) : Host.Outcome State Fault Refusal :=
  match rxOperand s with
  | none => .fault (.noValue .rxbuf)
  | some bytes =>
    let d := decodeInto bytes s.cfg.slaveId (countOperand s.cfg) s
    .next (afterAttempt (.decoded d.2) d.1)

/-- Phase CONVERT (R248, R249). -/
def convertMove (s : State) : Host.Outcome State Fault Refusal :=
  match frameOperand .regframe s with
  | none => .fault (.noValue .regframe)
  | some f => convertPublish f s

/-- Phase TRANSACT: the move `tr.phase` allows, if any (R191). -/
def transactMove (s : State) : Option (Host.Outcome State Fault Refusal) :=
  match s.tr.phase with
  | .idle => some (.next (startTransaction s))
  | .gap => if t35Ticks s.cfg ≤ s.tr.idleCnt then some (.next (assertDir s)) else none
  | .tx =>
    if s.utx.busy then none
    else if 8 ≤ s.tr.txidx then some (.next (s.enterPhase .flush))
    else
      match txByte s with
      | some d => some (.next (handByte d s))
      | none => some (.fault (.noValue .txbuf))
  | .flush => none
  | .turn => if s.cfg.turnaround ≤ s.tr.turnCnt then some (.next (receiveEnable s)) else none
  | .rx => if receptionOver s then some (.next (s.enterPhase .done)) else none
  | .done => if s.mst.held then none else some (takeResult s)

/-- The move the poll agent's phase allows without a tick passing, if any (R37, R242, R248). BACKOFF lasts `BACKOFF_TICKS` ticks,
possibly none (R245). -/
def pollMove (s : State) : Option (Host.Outcome State Fault Refusal) :=
  match s.mst.phase with
  | .wait => if s.cfg.pollInterval ≤ s.mst.intervalCnt then some (.next (startCycle s)) else none
  | .encode => some (.next (encodeMove s))
  | .transact => transactMove s
  | .decode => some (decodeMove s)
  | .backoff => if s.cfg.backoff ≤ s.mst.backoffCnt then some (.next (beginAttempt (returnFromError s))) else none
  | .convert => some (convertMove s)
  | .report => some (.next (reportPoll s))

/-! ### The UI agent's move, and who goes first -/

/-- The ui tick that is due is done, with the buttons as they are now (R310, R360). -/
def uiMove (s : State) : State :=
  let t := uiTick (rawOperand s) s
  (t.setUi { t.ui with due := false }).setEnv { t.env with btn := rawOperand s, btnNext := s.env.btnNext.tail }

/-- The draw of R361: whether the UI agent goes first (log 9). -/
def uiGoesFirst (s : State) : Bool := s.env.orderNext.headD (Config.uiFirst s.now.toNat)

/-- The draw is used up. -/
def dropDraw (s : State) : State := s.setEnv { s.env with orderNext := s.env.orderNext.tail }

/-- One step of the block by itself, `rst` being 0: a move of an agent that can move, else a tick. -/
def autoStep (s : State) : Host.Outcome State Fault Refusal :=
  match pollMove s with
  | none => .next (if s.ui.due then uiMove s else tick s)
  | some o =>
    if s.ui.due then
      if uiGoesFirst s then .next (uiMove (dropDraw s))
      else (pollMove (dropDraw s)).getD (.next (uiMove (dropDraw s)))
    else o

end Sys2Proof.Machine
end

