-- ==== Sys2Proof/Machine/Wire.lean ====
section
/-! DEFINITION. The formats that arrive on `uart_rxd`, level by level, tick by tick (log 4): CHAR (30_encoding.md R96), and
the frames RSP and EXC (R93, R94) as their characters. -/

namespace Sys2Proof.Machine

/-- These levels stand on `uart_rxd`, each for `BIT_TICKS` ticks, in place of what the line would have carried. The receiver
takes a character if it is enabled (R201, R203); outside phase RX it is not received and only keeps `tr.idle_cnt` at zero
(R208, R209). -/
def levelsOnLine (levels : List Bool) (s : State) : State :=
  let ls := levels.flatMap (List.replicate s.cfg.bitTicks)
  lineTicks ls.length (s.setEnv { s.env with line := ls ++ s.env.line.drop ls.length })

/-- A frame arrives on `uart_rxd`, character after character in the configured layout. Only a reception under way takes its
bytes (R63, R79, R208). -/
def frameOnLine (bytes : List Byte) (s : State) : State := levelsOnLine (bytes.flatMap (charLevels s.cfg)) s

/-- Format `RSP` (R93): the response arrives on the line. -/
def execRsp (slave : Byte) (func : BitVec 7) (regs : List U16) (crcLo crcHi : Byte) (s : State) :
    Host.Outcome State Fault Refusal :=
  .next ((frameOnLine (rspBytes slave func regs crcLo crcHi) s).setRes .none)

/-- Format `EXC` (R94): the exception response arrives on the line. -/
def execExc (slave : Byte) (func : BitVec 7) (code crcLo crcHi : Byte) (s : State) : Host.Outcome State Fault Refusal :=
  .next ((frameOnLine (excBytes slave func code crcLo crcHi) s).setRes .none)

/-- `CHAR.8N1` (R96). -/
def execChar8N1 (d : Byte) (s : State) : Host.Outcome State Fault Refusal :=
  .next ((levelsOnLine (frameLevels d none 1) s).setRes .none)

/-- `CHAR.8P1` (R96), with the parity bit the character carries. -/
def execChar8P1 (d : Byte) (p : Bool) (s : State) : Host.Outcome State Fault Refusal :=
  .next ((levelsOnLine (frameLevels d (some p) 1) s).setRes .none)

/-- `CHAR.8N2` (R96). -/
def execChar8N2 (d : Byte) (s : State) : Host.Outcome State Fault Refusal :=
  .next ((levelsOnLine (frameLevels d none 2) s).setRes .none)

/-- `CHAR.8P2` (R96), with the parity bit the character carries. -/
def execChar8P2 (d : Byte) (p : Bool) (s : State) : Host.Outcome State Fault Refusal :=
  .next ((levelsOnLine (frameLevels d (some p) 2) s).setRes .none)

end Sys2Proof.Machine
end

