-- ==== Sys2Proof/Machine/Dispatch.lean ====
section
/-! DEFINITION. One arm per row of spec/opcode_table.json, each one call of the row's meaning. -/

namespace Sys2Proof.Machine

def exec (i : Instr) (s : State) : Host.Outcome State Fault Refusal :=
  match i with
  | .reset => Sys2Proof.Machine.execReset s
  | .crcInit => Sys2Proof.Machine.execCrcInit s
  | .crcBit b => Sys2Proof.Machine.execCrcBit b s
  | .crcUpd d => Sys2Proof.Machine.execCrcUpd d s
  | .crcGet => Sys2Proof.Machine.execCrcGet s
  | .crcChk lo hi => Sys2Proof.Machine.execCrcChk lo hi s
  | .encRdreq slave start count => Sys2Proof.Machine.execEncRdreq slave start count s
  | .decResp buf slave count => Sys2Proof.Machine.execDecResp buf slave count s
  | .trTransact request m => Sys2Proof.Machine.execTrTransact request m s
  | .trGap => Sys2Proof.Machine.execTrGap s
  | .trTxen => Sys2Proof.Machine.execTrTxen s
  | .trWrite => Sys2Proof.Machine.execTrWrite s
  | .trFlush => Sys2Proof.Machine.execTrFlush s
  | .trRxen => Sys2Proof.Machine.execTrRxen s
  | .trRead => Sys2Proof.Machine.execTrRead s
  | .uartTxchar d => Sys2Proof.Machine.execUartTxchar d s
  | .uartRxchar => Sys2Proof.Machine.execUartRxchar s
  | .mstPoll slave start count => Sys2Proof.Machine.execMstPoll slave start count s
  | .mstCycle => Sys2Proof.Machine.execMstCycle s
  | .spConvert f => Sys2Proof.Machine.execSpConvert f s
  | .spPublish m alert => Sys2Proof.Machine.execSpPublish m alert s
  | .dbSample p r => Sys2Proof.Machine.execDbSample p r s
  | .uiTick raw => Sys2Proof.Machine.execUiTick raw s
  | .dsmTick => Sys2Proof.Machine.execDsmTick s
  | .dsmBtnMedia index => Sys2Proof.Machine.execDsmBtnMedia index s
  | .dsmBtnSensor => Sys2Proof.Machine.execDsmBtnSensor s
  | .dsmMeas => Sys2Proof.Machine.execDsmMeas s
  | .blkTick a => Sys2Proof.Machine.execBlkTick a s
  | .req slave start count crcLo crcHi => Sys2Proof.Machine.execReq slave start count crcLo crcHi s
  | .rsp slave func regs crcLo crcHi => Sys2Proof.Machine.execRsp slave func regs crcLo crcHi s
  | .exc slave func code crcLo crcHi => Sys2Proof.Machine.execExc slave func code crcLo crcHi s
  | .char8N1 d => Sys2Proof.Machine.execChar8N1 d s
  | .char8P1 d p => Sys2Proof.Machine.execChar8P1 d p s
  | .char8N2 d => Sys2Proof.Machine.execChar8N2 d s
  | .char8P2 d p => Sys2Proof.Machine.execChar8P2 d p s

end Sys2Proof.Machine
end

