-- ==== Sys2Proof/Machine/Step.lean ====
section
/-! DEFINITION. One step of the machine, and where a presented word stands. -/

namespace Sys2Proof.Machine

/-- One step. An ill-formed configuration gives no run (R13). While `rst` is 1 the step is the tick that resets (R400). A
presented word is decoded and runs, before any move of the agents and before a ui tick that is due (log 45); with none, the
block goes on by itself (log 1). -/
def step (s : State) : Host.Outcome State Fault Refusal :=
  if cfgWf s.cfg then
    if rstPort s then .next (resetTick s)
    else
      match fetchWord s with
      | none => autoStep s
      | some w =>
        match decode w with
        | .ok i => cutByRst (takeWord s) (exec i (takeWord s))
        | .error e => .refused (.undecodable e)
  else .refused .illFormedConfig

/-- The state with the instruction whose table bits are `w` presented as the next word (log 1, log 3). -/
def State.withFetchWord (s : State) (nbits w : Nat) : State := presentWord (wordOf nbits w) s

end Sys2Proof.Machine
end

