-- ==== Sys2Proof/Safety.lean ====
section
/-! DEFINITION. What a sound state is, and what a run of the block by itself is. `Inv` is what every step keeps, whatever
words are presented; `PollInv` is what a run without presented words keeps and what lets it go on for ever. -/

namespace Sys2Proof.Machine

/-! ### Units -/

/-- The Transport's registers are in the ranges of R25. `idleCnt` and `silenceCnt` saturate at `T35_TICKS`. -/
abbrev TrOk (c : Cfg) (t : Tr) : Prop :=
  t.txidx ≤ 8 ∧ t.idleCnt ≤ t35Ticks c ∧ t.turnCnt ≤ c.turnaround ∧ t.silenceCnt ≤ t35Ticks c ∧
    t.timeoutCnt ≤ c.respTimeout ∧ 5 ≤ t.maxLen ∧ t.maxLen ≤ 255

/-- The transmitter: idle with all its registers 0 and the line at rest, or inside a character with the line at the current
bit (R26, R200). -/
abbrev UtxOk (c : Cfg) (u : Utx) (txd : Bool) : Prop :=
  (u.busy = false → u = utxOff ∧ txd = true) ∧
    (u.busy = true → u.bitcnt < charBits c ∧ u.tickcnt < c.bitTicks ∧ txd = u.shift.getLsbD 0)

/-- The receiver: off with all its registers 0, or on and between characters or inside one (R27, R201). -/
abbrev UrxOk (c : Cfg) (u : Urx) : Prop :=
  (u.enable = false → u = urxOff) ∧ (u.busy = false → u.bitcnt = 0 ∧ u.tickcnt = 0) ∧
    (u.busy = true → u.bitcnt < charBits c ∧ u.tickcnt < c.bitTicks)

/-- Half duplex (R194, R197, R198, R212): the receiver is on in phase RX only, and then, as in the turnaround, the block
does not drive the line; a busy transmitter has the direction (R405). -/
abbrev HalfDuplex (s : State) : Prop :=
  (s.urx.enable = true ↔ s.tr.phase = .rx) ∧ (s.tr.phase = .rx → s.dirState = false) ∧
    (s.tr.phase = .turn → s.dirState = false) ∧ (s.tr.phase = .tx → s.dirState = true) ∧
    (s.utx.busy = true → s.dirState = true)

/-- The master's registers are in the ranges of R28; the backoff counter runs in phase BACKOFF only (R11); the result that
waits for the report is one of R352, and 0 on the way to CONVERT (R248; log 21); a transaction is held back in phase TRANSACT
only (log 38). -/
abbrev MstOk (c : Cfg) (m : Mst) : Prop :=
  m.attempt ≤ c.retryCount ∧ m.backoffCnt ≤ c.backoff ∧ m.intervalCnt ≤ c.pollInterval ∧
    (m.phase ≠ .backoff → m.backoffCnt = 0) ∧ (m.phase = .convert → m.result = 0) ∧ (m.phase = .report → m.result ≠ 3) ∧
    (m.phase ≠ .transact → m.held = false)

/-- `TX` is empty (never written) or holds exactly its eight bytes (R22, R160); `RX` holds exactly the indices below
`rxlen` (R23, R64). Both are in canonical form by this. -/
abbrev BuffersOk (s : State) : Prop :=
  (s.tx = [] ∨ s.tx.map Prod.fst = List.range 8) ∧ s.rx.map Prod.fst = List.range s.rxlen ∧ s.rxlen ≤ 255

/-- A display mode that R312 allows. -/
def modeOk (c : Cfg) : DisplayMode → Bool
  | .startup i => decide (i < c.nMedia)
  | .media i => decide (i < c.nMedia)
  | .sensor => true

/-- Whether a mode is a startup step. -/
def DisplayMode.isStartup : DisplayMode → Bool
  | .startup _ => true
  | .media _ | .sensor => false

/-- The display: legal modes (R312), the dwell counter below its limit and 0 outside the startup sequence (R35, R315). -/
abbrev DispOk (c : Cfg) (d : Disp) : Prop :=
  modeOk c d.mode = true ∧ d.dwell < c.startupN ∧ (d.mode.isStartup = false → d.dwell = 0)

/-- The blink timer: the counter below its limit; while it is not armed the flag rests at `BLINK_IDLE` (R36, R325). -/
abbrev BlinkOk (c : Cfg) (b : Blink) : Prop :=
  b.cnt < c.blinkN ∧ (b.armed = false → b.visible = c.blinkIdle ∧ b.cnt = 0)

/-- The debouncer: one entry per monitored pin, ascending, each counter below `DEBOUNCE_N` (R33, R290, R292). -/
abbrev DbOk (c : Cfg) (db : List (Nat × PinState)) : Prop :=
  db.map Prod.fst = monitoredFrom 0 c.pinmap ∧ ∀ e ∈ db, e.2.cnt < c.debounceN

/-- The agents' shared slot and the outputs: no alert without a snapshot (R32, R323), a legal mode on the ports (R327). -/
abbrev OutputsOk (s : State) : Prop := (s.snap.valid = false → s.snap.alert = false) ∧ modeOk s.cfg s.out.mode = true

/-! ### The invariant of every step -/

/-- A sound state: every register in its range, the buffers in canonical form, half duplex, legal modes. -/
structure Inv (s : State) : Prop where
  tr : TrOk s.cfg s.tr
  utx : UtxOk s.cfg s.utx s.uartTxd
  urx : UrxOk s.cfg s.urx
  half : HalfDuplex s
  mst : MstOk s.cfg s.mst
  buffers : BuffersOk s
  disp : DispOk s.cfg s.disp
  blink : BlinkOk s.cfg s.blink
  db : DbOk s.cfg s.db
  outputs : OutputsOk s
  ui : s.ui.div < s.cfg.uiTickTicks

/-! ### Runs of the block by itself -/

/-- What the poll agent's phases presuppose (R37, R242, R248): a request from ENCODE's end on, a decoded frame of `COUNT`
registers in CONVERT. -/
abbrev PollInv (s : State) : Prop :=
  ((s.mst.phase = .transact ∨ s.mst.phase = .backoff ∨ s.mst.phase = .decode) → s.tx.map Prod.fst = List.range 8) ∧
    (s.mst.phase = .convert → s.regframeValid = true ∧ s.regframe.length = s.cfg.count)

/-- `n` steps in a row, as long as each answers a next state. -/
def runSteps : Nat → State → Host.Outcome State Fault Refusal
  | 0, s => .next s
  | n + 1, s =>
    match step s with
    | .next t => runSteps n t
    | .fault e => .fault e
    | .refused e => .refused e

/-- A safe run of `n` steps: it stops neither in a fault nor in a refusal. -/
def SafeRun (n : Nat) (s : State) : Prop := ∃ t, runSteps n s = .next t

/-- What the poll agent and the line own: the state without the UI agent's elements and the order draws (R370). -/
def pollSide (s : State) : State :=
  { s with
    db := [], disp := { mode := .sensor, dwell := 0 }, blink := { visible := false, cnt := 0, armed := false }
    out := { mode := .sensor, meas := none, blink := false }, ui := { div := 0, due := false }
    env := { s.env with btn := [], btnNext := [], orderNext := [] } }

/-- What the UI agent owns: its registers, the outputs and its clock (R370). -/
structure UiSide where
  db : List (Nat × PinState)
  disp : Disp
  blink : Blink
  out : Intent
  ui : UiClock
deriving DecidableEq, Repr

/-- The UI agent's part of a state. -/
def uiSide (s : State) : UiSide := { db := s.db, disp := s.disp, blink := s.blink, out := s.out, ui := s.ui }

/-! ### Sequences -/

/-- Operations performed one after another, as long as each answers a next state (R107). -/
def runAll : List Instr → State → Host.Outcome State Fault Refusal
  | [], s => .next s
  | i :: is, s =>
    match exec i s with
    | .next t => runAll is t
    | .fault e => .fault e
    | .refused e => .refused e

/-- The row of a character that carries `d` in the configured layout (R96). -/
def charInstr (c : Cfg) (d : Byte) : Instr :=
  match parityBit c.parity d with
  | none => if c.stopBits = 1 then .char8N1 d else .char8N2 d
  | some p => if c.stopBits = 1 then .char8P1 d p else .char8P2 d p

/-- DB.SAMPLE on each of these pins in turn, and the pins whose sample emitted an event (R310 step 1). -/
def sampleEach (raw : List Bool) : List Nat → State → Option (State × List Nat)
  | [], s => some (s, [])
  | p :: ps, s =>
    match exec (.dbSample p (rawLevel raw p)) s with
    | .next t =>
      (sampleEach raw ps t).map fun (u, evs) => (u, if t.res = .event (some p) then p :: evs else evs)
    | .fault _ => none
    | .refused _ => none

/-- The operation a Button Event of each of these pins starts (R310 step 2). -/
def eventInstrs (c : Cfg) (pins : List Nat) : List Instr :=
  pins.filterMap fun p =>
    match pinUse c p with
    | .media i => some (.dsmBtnMedia i)
    | .sensor => some .dsmBtnSensor
    | .unmapped => none

/-- The samples of one pin in order: after each, the stable level and whether an event was emitted (R292). -/
def pinRun (n : Nat) : PinState → List Bool → List (Bool × Bool)
  | _, [] => []
  | p, r :: rs => ((samplePin n r p).1.stable, (samplePin n r p).2) :: pinRun n (samplePin n r p).1 rs

/-- The same for the shift-register realisation (R296). -/
def shiftRun : ShiftPin → List Bool → List (Bool × Bool)
  | _, [] => []
  | p, r :: rs => ((shiftSample r p).1.stable, (shiftSample r p).2) :: shiftRun (shiftSample r p).1 rs

/-- The state in which attempt `j` of a poll begins, if the `j` attempts before it were all retried (R242, R245). -/
def attemptStart (req : List Byte) (slave : Byte) (n : U16) : Nat → State → State
  | 0, s => s
  | j + 1, s =>
    attemptStart req slave n j
      (returnFromError (idlePass (attempt req slave n s).1.cfg.backoff (takeError (attempt req slave n s).1)))

/-- The state in which the first attempt of a poll begins (R242). -/
def pollStart (slave : Byte) (start n : U16) (s : State) : State :=
  let e := encodeRequest slave start n (s.setMstPhase .encode)
  e.setMst { e.mst with attempt := 0 }

/-- The tick at which character `j` (from 0) of an answer ends, counted from receive-enable (R205). -/
def charEnd (charTicks : Nat) (ev : Answer) (j : Nat) : Nat :=
  ((ev.take (j + 1)).map fun e => e.1 + charTicks).sum

/-- The bytes among the items of an answer. -/
def answerBytes (ev : Answer) : List Byte :=
  ev.filterMap fun e => match e.2 with | .byte d => some d | .error => none

/-- A slave's answer: these bytes back to back, the first after `gap` idle ticks. -/
def answerOf (gap : Nat) : List Byte → Answer
  | [] => []
  | d :: ds => (gap, .byte d) :: ds.map fun b => (0, .byte b)

/-- The frame a slave answers with: body and the CRC of the body, low byte first (R93, R94, R98). -/
def withCrc (body : List Byte) : List Byte := body ++ [loByte (crc16 body), hiByte (crc16 body)]

/-- What is still to be sent by a transmitter that may be busy. -/
def pendingLevels (s : State) : List Bool := if s.utx.busy then utxLeft s.cfg s.utx else []

/-- Levels as they stand on the line, each for a bit time. -/
def onLine (c : Cfg) (levels : List Bool) : List Bool := levels.flatMap (List.replicate c.bitTicks)

/-! ### Frames -/

/-- What no operation of the poll agent short of its report and publication changes: the configuration, the snapshot slot,
the report, the UI agent's elements and the inputs that do not belong to the serial line (R42, R250, R370); of `rst` only
the levels of the ticks that pass are used up (R400). -/
structure PollFrame (s t : State) : Prop where
  cfg : t.cfg = s.cfg
  snap : t.snap = s.snap
  pollStatus : t.pollStatus = s.pollStatus
  ui : uiSide t = uiSide s
  pend : t.env.pend = s.env.pend
  btn : t.env.btn = s.env.btn
  btnNext : t.env.btnNext = s.env.btnNext
  rstNext : t.env.rstNext <:+ s.env.rstNext
  orderNext : t.env.orderNext = s.env.orderNext

/-- What no operation of the Transport and the UART changes: the above, the CRC register, the request buffer, the register
frame and the master's registers but for its interval counter (R25, R26, R27, R42). Free to change are `tr`, `dirState`,
`uartTxd`, `utx`, `urx`, `rx`, `rxlen`, `now`, `pollDone`, the interval counter, `res` and the line. -/
structure LinkFrame (s t : State) : Prop extends PollFrame s t where
  crc : t.crc = s.crc
  tx : t.tx = s.tx
  regframe : t.regframe = s.regframe
  regframeValid : t.regframeValid = s.regframeValid
  mst : t.mst = { s.mst with intervalCnt := t.mst.intervalCnt }

/-- What passes when the block only waits or sends: a `LinkFrame` in which the receive buffer stays as well. -/
structure SendFrame (s t : State) : Prop extends LinkFrame s t where
  rx : t.rx = s.rx
  rxlen : t.rxlen = s.rxlen

end Sys2Proof.Machine
end

