-- ==== Sys2Proof/Certificates/Slice0/Obligations.lean ====
section
/-! DEFINITION. The statements about the model, one `def Obligations.<Name> : Prop` each, in the order of OBLIGATIONS.json. -/

open Sys2Proof Sys2Proof.Machine

/-! ### Reset, decoding, the step -/

/-- RESET gives every element the value of R43 (R400, R401), in any state; configuration and environment stay. While `rst` is 1
every step is a tick that leaves exactly that state, presented words or not (R400; which of `rst` and a presented word comes
first is log 25). -/
def Obligations.ResetGivesEveryElementItsValue : Prop :=
  ∀ s : State, (∃ t, exec .reset s = .next t ∧ t.cfg = s.cfg ∧ t.env = s.env ∧
    t.crc = 0xFFFF ∧ (∀ a, Memory.read t.tx a = none) ∧ (∀ a, Memory.read t.rx a = none) ∧ t.rxlen = 0 ∧
    t.regframeValid = false ∧
    t.tr.phase = .idle ∧ t.tr.txidx = 0 ∧ t.tr.idleCnt = 0 ∧ t.tr.turnCnt = 0 ∧ t.tr.silenceCnt = 0 ∧
    t.tr.timeoutCnt = 0 ∧ t.tr.ioErr = false ∧ t.dirState = false ∧ t.uartTxd = true ∧ t.utx = utxOff ∧ t.urx = urxOff ∧
    t.mst.phase = .wait ∧ t.mst.attempt = 0 ∧ t.mst.backoffCnt = 0 ∧ t.mst.intervalCnt = s.cfg.pollInterval ∧
    t.pollStatus = 3 ∧ t.pollDone = false ∧ t.now = 0 ∧ t.snap.valid = false ∧ t.snap.alert = false ∧
    (∀ p st, (p, st) ∈ t.db ↔ monitored s.cfg p = true ∧ st = { stable := false, cnt := 0 }) ∧
    t.disp = { mode := .startup 0, dwell := 0 } ∧ t.blink = { visible := s.cfg.blinkIdle, cnt := 0, armed := false } ∧
    dirPort t = !s.cfg.dirTxLevel ∧ modeTagPort t = 0 ∧ modeIndexPort t = 0 ∧ measValidPort t = false ∧
    t.out.blink = s.cfg.blinkIdle) ∧
  (cfgWf s.cfg = true → rstPort s = true → ∃ t, exec .reset s = .next t ∧
    step s = .next { t with env := { s.env with line := s.env.line.tail, rstNext := s.env.rstNext.tail } })

/-- A step with a word presented and `rst` at 0 decodes it and runs the instruction on the state with the word taken; if `rst`
stays 0 that is all the step does, and if a tick of the instruction meets `rst` at 1 the block is reset on that tick (R400;
log 25). The table words are presented the same way (log 1, log 3). -/
def Obligations.StepRunsTheDecodedWord : Prop :=
  (∀ (s u : State) (w : StreamWord) (ws : List StreamWord) (i : Instr), cfgWf s.cfg = true → rstPort s = false →
    s.env.pend = w :: ws → decode w = .ok i → u = { s with env := { s.env with pend := ws } } →
    ((∀ r ∈ s.env.rstNext, r = false) → step s = exec i u) ∧
    (∀ t, exec i u = .next t → (∀ r ∈ sampledRst s t, r = false) → step s = .next t) ∧
    (∀ t, exec i u = .next t → (∃ r ∈ sampledRst s t, r = true) → ∃ k, s.env.rstNext[k]? = some true ∧
      (∀ j, j < k → s.env.rstNext[j]? = some false) ∧
      step s = .next (State.resetOf s.cfg { u.env with
        line := s.env.line.drop (k + 1), rstNext := s.env.rstNext.drop (k + 1) }))) ∧
  (∀ (s : State) (nbits w : Nat) (i : Instr), cfgWf s.cfg = true → (∀ r ∈ s.env.rstNext, r = false) →
    decodeTableWord nbits w = some i → step (s.withFetchWord nbits w) = exec i s)

/-- When a step does not run: an ill-formed configuration gives no run (R13), and a presented word that is no instruction is
refused with the decoder's reason while `rst` is 0 (R110; log 1, log 25, log 28). -/
def Obligations.StepRefusesWhatIsIllFormed : Prop :=
  (∀ s : State, cfgWf s.cfg = false → step s = .refused .illFormedConfig) ∧
  (∀ (s : State) (w : StreamWord) (ws : List StreamWord) (e : DecodeError), cfgWf s.cfg = true → rstPort s = false →
    s.env.pend = w :: ws → decode w = .error e → step s = .refused (.undecodable e))

/-- Decoding the encoding of any well-formed instruction gives it back, with every operand. -/
def Obligations.DecodeOfEncode : Prop :=
  ∀ i : Instr, i.wf = true → decode (encode i) = .ok i

/-- Whatever word is decoded, the instruction is well formed. -/
def Obligations.DecodedIsWellFormed : Prop :=
  ∀ (w : StreamWord) (i : Instr), decode w = .ok i → i.wf = true

/-- A frame or a character that decodes is the encoding of what it decodes to: each has one meaning (R92 to R96). -/
def Obligations.WireWordsHaveOneMeaning : Prop :=
  (∀ (bs : List Byte) (i : Instr), decode (.frame bs) = .ok i → encode i = .frame bs) ∧
  (∀ (f : CharFormat) (levels : List Bool) (i : Instr), decode (.char f levels) = .ok i → encode i = .char f levels)

/-- A few words written out from the spec's encodings decode to the instruction they stand for (R92 to R96, R110). Several rows
of the table have 8 or 11 bits and carry no mark of their own: that 8 bits 0x00 are RESET and not a format, and that an 11-bit
word whose last two bits are 1 is read with two stop bits, as 8N2, and any other one with parity (so that R96's own example of
0x01 with even parity and one stop bit is read as 8N2), is the model's choice (log 3). -/
def Obligations.WordsOfTheSpecDecode : Prop :=
  decodeTableWord 8 0x00 = some .reset ∧ decodeTableWord 8 0x01 = some .crcInit ∧
  decodeTableWord 8 0x24 = some .trFlush ∧ decodeTableWord 8 0x31 = some .mstCycle ∧
  decodeTableWord 8 0x63 = some .dsmBtnSensor ∧ decodeTableWord 8 0x66 = none ∧
  decodeTableWord 64 0x010300000002C40B = some (.req 0x01 0x0000 0x0002 0xC4 0x0B) ∧
  decodeTableWord 72 0x0103040929007B6844 = some (.rsp 0x01 0x03 [0x0929, 0x007B] 0x68 0x44) ∧
  decodeTableWord 40 0x018302C0F1 = some (.exc 0x01 0x03 0x02 0xC0 0xF1) ∧
  decodeTableWord 11 0b01000000011 = some (.char8N2 0x01) ∧
  decodeTableWord 11 0b00010001101 = some (.char8P1 0xC4 false)

/-- Every step keeps a sound state sound, whatever word is presented (`Inv`: registers in range, buffers in canonical form,
half duplex, legal modes; a result on its way to the report is one of R352, log 21). -/
def Obligations.EveryStepKeepsTheInvariant : Prop :=
  ∀ s t : State, Inv s → step s = .next t → Inv t

/-- The state after reset is sound, and ready for a run of the block by itself, in every well-formed configuration and with
every input to come; `State.reset` is one of these states (its configuration is log 5; the elements R43 gives no value, such as
`tr.max_len`, take those of log 6). -/
def Obligations.ResetIsSound : Prop :=
  (∀ (c : Cfg) (e : Env), cfgWf c = true → Inv (State.resetOf c e) ∧ PollInv (State.resetOf c e)) ∧
  cfgWf Cfg.vectorDefault = true ∧ State.reset = State.resetOf Cfg.vectorDefault Env.quiet

/-- The block by itself never stops (R426, R251): from every sound state with no word presented, any number of steps in a
row answers next states, all of them sound. -/
def Obligations.TheBlockNeverStops : Prop :=
  ∀ (n : Nat) (s : State), cfgWf s.cfg = true → Inv s → PollInv s → s.env.pend = [] →
    ∃ t, runSteps n s = .next t ∧ Inv t ∧ PollInv t ∧ t.env.pend = []

/-- Who may write what (R42), over the operations: nobody writes the configuration; the slot is written by SP.PUBLISH and
MST.CYCLE only; the UI agent's registers by the UI operations only; the serial line by the Transport, UART and master
operations and by what arrives on the line only (RESET writes everything but the configuration; what the wire rows do is
log 4). -/
def Obligations.EachElementHasItsWriters : Prop :=
  ∀ (i : Instr) (s t : State), exec i s = .next t → t.cfg = s.cfg ∧
    (match i with
      | .reset => True
      | .spPublish _ _ => uiSide t = uiSide s ∧ t.uartTxd = s.uartTxd ∧ t.dirState = s.dirState ∧ t.utx = s.utx ∧
          t.urx = s.urx ∧ t.tr = s.tr
      | .mstCycle => uiSide t = uiSide s
      | .dbSample _ _ | .uiTick _ | .dsmTick | .dsmBtnMedia _ | .dsmBtnSensor | .dsmMeas | .blkTick _ =>
          t.snap = s.snap ∧ pollSide { t with res := s.res } = pollSide s
      | .trTransact _ _ | .trGap | .trTxen | .trWrite | .trFlush | .trRxen | .trRead | .uartTxchar _ | .uartRxchar
      | .req _ _ _ _ _ | .rsp _ _ _ _ _ | .exc _ _ _ _ _ | .char8N1 _ | .char8P1 _ _ | .char8N2 _ | .char8P2 _ _ =>
          t.snap = s.snap ∧ uiSide t = uiSide s ∧ t.crc = s.crc ∧ t.regframe = s.regframe ∧
            t.regframeValid = s.regframeValid ∧ ∀ a, Memory.read t.tx a = Memory.read s.tx a
      | .mstPoll _ _ _ => t.snap = s.snap ∧ uiSide t = uiSide s
      | .crcInit | .crcBit _ | .crcUpd _ | .crcGet | .crcChk _ _ | .encRdreq _ _ _ | .decResp _ _ _ | .spConvert _ =>
          t.snap = s.snap ∧ uiSide t = uiSide s ∧ t.uartTxd = s.uartTxd ∧ t.dirState = s.dirState ∧ t.utx = s.utx ∧
            t.urx = s.urx ∧ t.tr = s.tr)

/-! ### CRC-16 -/

/-- CRC.INIT, CRC.BIT, CRC.GET, CRC.CHK (R132, R133, R135, R136): the register after each, the result, and nothing else. -/
def Obligations.CrcRegisterOperations : Prop :=
  ∀ s : State,
    exec .crcInit s = .next { s with crc := 0xFFFF, res := .none } ∧
    (∀ b, exec (.crcBit b) s =
      .next { s with
        crc := (s.crc >>> 1) ^^^ (if s.crc.getLsbD 0 != b then 0xA001 else 0x0000), res := .none }) ∧
    exec .crcGet s = .next { s with res := .trailer (s.crc.extractLsb' 0 8) (s.crc.extractLsb' 8 8) } ∧
    (∀ lo hi, exec (.crcChk lo hi) s =
      .next { s with res := .check (decide (lo = s.crc.extractLsb' 0 8 ∧ hi = s.crc.extractLsb' 8 8)) })

/-- CRC.UPD writes `crc` only, with the value of the byte form of R134, which is that of eight CRC.BIT steps on `d[0]` to
`d[7]` (R134, R107). -/
def Obligations.CrcUpdIsEightBitSteps : Prop :=
  ∀ (s : State) (d : Byte),
    exec (.crcUpd d) s = .next { s with crc := crcUpdByte s.crc d, res := .none } ∧
    runAll ((List.range 8).map fun k => .crcBit (d.getLsbD k)) s = exec (.crcUpd d) s

/-- The table form (R138): its entries are the eight-step loop's results, and `upd` is the look-up. -/
def Obligations.CrcTableForm : Prop :=
  (∀ i, i < 256 → crcTable[i]? = some (crcLoop 8 (BitVec.ofNat 16 i))) ∧
  ∀ (c : U16) (d : Byte), crcUpd c d = (c >>> 8) ^^^ crcTable.getD ((c ^^^ d.setWidth 16).toNat % 256) 0

/-- The parallel form (R139): bit `i` of the register after one byte is the printed sum of bits. -/
def Obligations.CrcParallelForm : Prop :=
  ∀ (c : U16) (d : Byte) (i : Nat), i < 16 → (crcUpdParallel c d)[i]? = some ((crcUpd c d).getLsbD i)

/-- The residue (R141): the CRC over a message and its trailer is zero, and running the CRC over the whole frame and comparing
with zero is the same as CRC.CHK on the trailer, in the trailer's order only. -/
def Obligations.CrcResidueIsZero : Prop :=
  (∀ m : List Byte, crc16 (m ++ [loByte (crc16 m), hiByte (crc16 m)]) = 0x0000) ∧
  ∀ (m : List Byte) (lo hi : Byte), crc16 (m ++ [lo, hi]) = 0x0000 ↔ crcMatches (crc16 m) lo hi = true

/-- Detection of a single corrupted byte (R142): a frame with a correct trailer and one byte replaced fails CRC.CHK. -/
def Obligations.CrcDetectsOneCorruptedByte : Prop :=
  ∀ (m : List Byte) (k : Nat) (d : Byte), k < m.length + 2 → (withCrc m)[k]? ≠ some d →
    ∀ frame, frame = (withCrc m).set k d →
      crcMatches (crc16 (frame.take m.length)) (frame.getD m.length 0) (frame.getD (m.length + 1) 0) = false

/-- For each fixed byte, `upd` is a bijection of the register (R143). -/
def Obligations.CrcUpdIsABijection : Prop :=
  ∀ d : Byte, Function.Bijective fun c : U16 => crcUpd c d

/-- A message through the unit (R137, R107): CRC.INIT and one CRC.UPD per byte leave `crc16(m)` in the register and change
nothing else, and then CRC.CHK is true of exactly the trailer CRC.GET gives. -/
def Obligations.CrcOfAMessage : Prop :=
  ∀ (m : List Byte) (s : State),
    runAll (.crcInit :: m.map .crcUpd) s = .next { s with crc := crc16 m, res := .none } ∧
    ∀ lo hi : Byte, ∃ b, runAll (.crcInit :: m.map .crcUpd ++ [.crcChk lo hi]) s =
        .next { s with crc := crc16 m, res := .check b } ∧
      (b = true ↔ runAll (.crcInit :: m.map .crcUpd ++ [.crcGet]) s =
        .next { s with crc := crc16 m, res := .trailer lo hi })

/-! ### Frame codec -/

/-- ENC.RDREQ (R160): the eight bytes of a `REQ` in `txbuf` and as the result, the CRC of the first six in `crc`, every other
byte of `TX` and every other element as before. -/
def Obligations.EncRdreqBuildsTheRequest : Prop :=
  ∀ (s : State) (slave : Byte) (a n : U16), ∃ t, exec (.encRdreq slave a n) s = .next t ∧
    (∃ c, c = crc16 [slave, 0x03, a.extractLsb' 8 8, a.extractLsb' 0 8, n.extractLsb' 8 8, n.extractLsb' 0 8] ∧
      t.res = .bytes [slave, 0x03, a.extractLsb' 8 8, a.extractLsb' 0 8, n.extractLsb' 8 8, n.extractLsb' 0 8,
        c.extractLsb' 0 8, c.extractLsb' 8 8] ∧
      t = { s with tx := t.tx, crc := c, res := t.res }) ∧
    (∀ bs, t.res = .bytes bs → bs.length = 8 ∧ ∀ k, k < 8 → Memory.read t.tx k = bs[k]?) ∧
    ∀ k, 8 ≤ k → Memory.read t.tx k = Memory.read s.tx k

/-- DEC.RESP (R165, R166): the checks in their order, the first that fails gives the result; `crc` is computed unless the
frame is too short; on `Ok` the registers, high byte first, are in `regframe`; every other element is as before. That an `Ok`
replaces a frame that has not been consumed (`regframe_valid` = 1), where R24 and R172 call a frame immutable, is the model's
choice (log 39). -/
def Obligations.DecRespChecksInOrder : Prop :=
  ∀ (s : State) (buf : List Byte) (slave : Byte) (n : U16), ∃ t r, exec (.decResp buf slave n) s = .next t ∧
    t.res = .decoded r ∧
    (∀ e, r = .err e → t = { s with crc := t.crc, res := t.res }) ∧
    (∀ f, r = .ok f → t = { s with crc := t.crc, regframe := f, regframeValid := true, res := t.res }) ∧
    (buf.length < 5 → r = .err .shortFrame ∧ t.crc = s.crc) ∧
    (5 ≤ buf.length → ∃ c b0 b1 b2 lo hi, c = crc16 (buf.take (buf.length - 2)) ∧ t.crc = c ∧
      buf[0]? = some b0 ∧ buf[1]? = some b1 ∧ buf[2]? = some b2 ∧ buf[buf.length - 2]? = some lo ∧
      buf[buf.length - 1]? = some hi ∧
      (¬ (lo = c.extractLsb' 0 8 ∧ hi = c.extractLsb' 8 8) → r = .err .crcMismatch) ∧
      (lo = c.extractLsb' 0 8 ∧ hi = c.extractLsb' 8 8 →
        (b0 ≠ slave → r = .err .slaveMismatch) ∧
        (b0 = slave →
          (b1.getLsbD 7 = true → r = .err (.exceptionResponse b2)) ∧
          (b1.getLsbD 7 = false →
            (b2.toNat ≠ 2 * n.toNat ∨ buf.length ≠ 5 + 2 * n.toNat → r = .err .shortFrame) ∧
            (b2.toNat = 2 * n.toNat ∧ buf.length = 5 + 2 * n.toNat → ∃ f, r = .ok f ∧ f.length = n.toNat ∧
              ∀ i, i < n.toNat → ∃ h l, buf[3 + 2 * i]? = some h ∧ buf[4 + 2 * i]? = some l ∧ f[i]? = some (h ++ l))))))

/-- Single-byte corruption (R175). -/
def Obligations.OneCorruptedByteIsCrcMismatch : Prop :=
  ∀ (s : State) (buf : List Byte) (slave : Byte) (n : U16) (f : List U16) (k : Nat) (d : Byte),
    decodeResponse buf slave n = .ok f → k < buf.length → buf[k]? ≠ some d →
    ∃ t, exec (.decResp (buf.set k d) slave n) s = .next t ∧ t.res = .decoded (.err .crcMismatch)

/-- Round trip (R176): a simulated slave that answers the valid triple's request with the registers `v` gives them
back; they are in `regframe` (R165), also where a frame there has not been consumed (log 39). -/
def Obligations.ResponseRoundTrip : Prop :=
  ∀ (s : State) (slave : Byte) (a n : U16) (v : List U16), validPoll s.cfg slave a n = true → s.cfg.maxCount ≤ 127 →
    v.length = n.toNat →
    ∃ t, exec (.decResp (withCrc (rspBody slave 0x03 v)) slave n) s = .next t ∧ t.res = .decoded (.ok v) ∧
      t.regframe = v ∧ t.regframeValid = true

/-- The three frame rows (R92 to R94; that such a word puts its frame onto the line is the model's choice, log 4). A request
goes out on `uart_txd` with the direction asserted: after what is still to be sent (log 29), and without waiting for the silence
of R193 and R410 (log 4), its eight characters back to back, whatever its fields are (log 43).
A response arrives on `uart_rxd` as the characters of the configured layout: from every sound state, the same as the rows of
these characters one after another (their meaning is CharacterRowsReachTheReceiver). With the receiver off nothing of it is
received (R63, R208). -/
def Obligations.FrameRowsArrive : Prop :=
  (∀ (s : State) (slave : Byte) (a n : U16) (lo hi : Byte), cfgWf s.cfg = true → ∃ t,
    exec (.req slave a n lo hi) s = .next t ∧
    t.env.txdLog = s.env.txdLog ++ pendingLevels s ++
      (reqBytes slave a n lo hi).flatMap (fun d => onLine s.cfg (charLevels s.cfg d)) ∧
    t.now = s.now + BitVec.ofNat 64 ((pendingLevels s).length + 8 * charTicks s.cfg) ∧
    t.dirState = true ∧ t.uartTxd = true ∧ t.utx = utxOff ∧ t.urx = urxOff ∧ t.tr.phase = .flush ∧ t.tr.txidx = 8 ∧
    t.res = .none ∧ SendFrame s t ∧ ∀ k, Memory.read t.tx k = Memory.read s.tx k ∧ Memory.read t.rx k = Memory.read s.rx k) ∧
  (∀ (s : State) (i : Instr) (bytes : List Byte), cfgWf s.cfg = true →
    ((∃ slave func regs lo hi, i = .rsp slave func regs lo hi ∧ bytes = rspBytes slave func regs lo hi) ∨
      (∃ slave func code lo hi, i = .exc slave func code lo hi ∧ bytes = excBytes slave func code lo hi)) →
    ∃ t, exec i s = .next t ∧ PollFrame s t ∧ t.res = .none ∧
      t.now = s.now + BitVec.ofNat 64 (bytes.length * charTicks s.cfg) ∧ t.crc = s.crc ∧ t.regframe = s.regframe ∧
      t.regframeValid = s.regframeValid ∧ (∀ k, Memory.read t.tx k = Memory.read s.tx k) ∧
      (Inv s → runAll (bytes.map (charInstr s.cfg)) s = .next t) ∧
      (s.urx.enable = false → (∀ k, Memory.read t.rx k = Memory.read s.rx k) ∧ t.rxlen = s.rxlen))

/-! ### UART -/

/-- UART.TXCHAR (R200, R96): after what a busy transmitter still has to send (log 29), the start bit, the eight data bits from bit 0
up, the parity bit of the configuration if any and the stop bits stand on `uart_txd`, each for `BIT_TICKS` ticks; then the line
rests at 1. Nothing but the line, time and the counters that run with it changes (which counters run on while a presented word
takes its ticks is log 10). That it is sent in every state, with `dir_state` = 0 too, where R79 and R192 let the block transmit
inside a transaction only, is the model's choice (log 40), and so is `utx.shift` at 0 after it (log 30). -/
def Obligations.TxcharSendsTheCharacter : Prop :=
  ∀ (s : State) (d : Byte), cfgWf s.cfg = true → ∃ t, exec (.uartTxchar d) s = .next t ∧
    t.env.txdLog = s.env.txdLog ++ pendingLevels s ++ onLine s.cfg ([false] ++ (List.range 8).map d.getLsbD ++
      (match s.cfg.parity with
        | .none => []
        | .even => [(List.range 8).foldl (fun p k => xor p (d.getLsbD k)) false]
        | .odd => [!(List.range 8).foldl (fun p k => xor p (d.getLsbD k)) false]) ++
      List.replicate s.cfg.stopBits true) ∧
    t.uartTxd = true ∧ t.utx = utxOff ∧ t.urx = s.urx ∧ t.dirState = s.dirState ∧ t.res = .none ∧
    t.now = s.now + BitVec.ofNat 64 ((pendingLevels s).length + charTicks s.cfg) ∧ SendFrame s t ∧
    ∀ a, Memory.read t.tx a = Memory.read s.tx a ∧ Memory.read t.rx a = Memory.read s.rx a

/-- Tick by tick (R200): once a byte is handed to the free transmitter, on tick `k` of its `CHAR_BITS × BIT_TICKS` ticks
`uart_txd` carries level `k / BIT_TICKS` of the character and `utx.busy` is 1; then the line rests at 1 and `utx.busy` is 0. -/
def Obligations.TransmitterTickByTick : Prop :=
  ∀ (s : State) (d : Byte), cfgWf s.cfg = true →
    (∀ k, k < charTicks s.cfg → (lineTicks k (loadChar d s)).utx.busy = true ∧
      (charLevels s.cfg d)[k / s.cfg.bitTicks]? = some (lineTicks k (loadChar d s)).uartTxd) ∧
    (lineTicks (charTicks s.cfg) (loadChar d s)).utx.busy = false ∧
    (lineTicks (charTicks s.cfg) (loadChar d s)).uartTxd = true

/-- UART.RXCHAR (R201): a receiver between characters, on a line that is idle for `g` ticks and then carries a character, gives
that byte, or `error` if the first stop bit is 0 or the parity bit is not the one of R96. A level 0 that ends before the middle of
a bit time (a glitch) begins no character: one that follows later is received as if the line had been idle. A receiver that is
off gives nothing (log 15). In every case the operation completes and touches neither buffers nor registers of another unit: that
a character taken inside a reception is not stored in it is the model's choice (log 42). -/
def Obligations.RxcharReceivesTheCharacter : Prop :=
  (∀ s : State, ∃ t, exec .uartRxchar s = .next t ∧ SendFrame s t ∧
    (∀ a, Memory.read t.tx a = Memory.read s.tx a ∧ Memory.read t.rx a = Memory.read s.rx a) ∧
    (s.urx.enable = false → t = { s with res := .character none })) ∧
  (∀ (s : State) (g : Nat) (glitch : List Bool) (d : Byte) (p stop : Bool) (rest : List Bool), cfgWf s.cfg = true →
    s.urx.enable = true → s.urx.busy = false →
    (glitch = [] ∨ ∃ k n, 1 ≤ k ∧ k ≤ s.cfg.bitTicks / 2 ∧ s.cfg.bitTicks / 2 < k + n ∧
      glitch = List.replicate k false ++ List.replicate n true) →
    s.env.line = List.replicate g true ++ glitch ++ onLine s.cfg ([false] ++ (List.range 8).map d.getLsbD ++
      (if s.cfg.parity = .none then [] else [p]) ++ [stop] ++ List.replicate (s.cfg.stopBits - 1) true) ++ rest →
    ∃ t, exec .uartRxchar s = .next t ∧ t.env.line = rest ∧
      t.now = s.now + BitVec.ofNat 64 (g + glitch.length + charTicks s.cfg) ∧ t.urx.enable = true ∧ t.urx.busy = false ∧
      t.res = .character (some (if stop = true ∧ (s.cfg.parity = .none ∨ parityBit s.cfg.parity d = some p)
        then .byte d else .error)))

/-- The byte-level answers of the link oracle are the receiver's view of the waveform they are rendered to (R205, R201; the
waveform of an errored character is log 14). -/
def Obligations.AnswersAreTheReceiversView : Prop :=
  ∀ (c : Cfg) (ev : Answer), cfgWf c = true → receiverView c (renderAnswer c ev) = ev

/-- The four character rows (R96; that such a word puts the levels on `uart_rxd` is the model's choice, log 4, log 32): each
completes after its bit times and touches no other unit; with the receiver off nothing is received (R208); with the receiver
on, between characters, in the matching layout, with room left and the reception not over before the character's end (R199),
the byte is appended to `RX` if its parity is right, and otherwise sets `tr.io_err` and appends nothing (R203); the receiver is
then between characters again. -/
def Obligations.CharacterRowsReachTheReceiver : Prop :=
  (∀ (s : State) (d : Byte) (p : Bool), ∃ t1 t2 t3 t4,
    exec (.char8N1 d) s = .next t1 ∧ exec (.char8P1 d p) s = .next t2 ∧
    exec (.char8N2 d) s = .next t3 ∧ exec (.char8P2 d p) s = .next t4 ∧
    (∀ e ∈ [(t1, 10), (t2, 11), (t3, 11), (t4, 12)], PollFrame s e.1 ∧
      e.1.now = s.now + BitVec.ofNat 64 (e.2 * s.cfg.bitTicks) ∧ e.1.crc = s.crc ∧ e.1.regframe = s.regframe ∧
      e.1.regframeValid = s.regframeValid ∧ (∀ a, Memory.read e.1.tx a = Memory.read s.tx a) ∧
      (s.urx.enable = false → (∀ a, Memory.read e.1.rx a = Memory.read s.rx a) ∧ e.1.rxlen = s.rxlen))) ∧
  (∀ (s : State) (d : Byte) (p : Bool) (i : Instr), cfgWf s.cfg = true → s.tr.phase = .rx →
    s.urx.enable = true → s.urx.busy = false → s.rxlen < s.tr.maxLen →
    s.tr.timeoutCnt + charTicks s.cfg ≤ s.cfg.respTimeout → (seenChar s = true → s.tr.silenceCnt < t35Ticks s.cfg) →
    (match s.cfg.parity, s.cfg.stopBits with
      | .none, 1 => i = .char8N1 d
      | .none, _ => i = .char8N2 d
      | _, 1 => i = .char8P1 d p
      | _, _ => i = .char8P2 d p) →
    ∃ t, exec i s = .next t ∧ t.urx.enable = true ∧ t.urx.busy = false ∧ t.tr.silenceCnt = 0 ∧
      t.tr.timeoutCnt = s.tr.timeoutCnt + charTicks s.cfg ∧
      (s.cfg.parity = .none ∨ parityBit s.cfg.parity d = some p →
        Memory.read t.rx s.rxlen = some d ∧ (∀ a, a ≠ s.rxlen → Memory.read t.rx a = Memory.read s.rx a) ∧
          t.rxlen = s.rxlen + 1 ∧ t.tr.ioErr = s.tr.ioErr) ∧
      (s.cfg.parity ≠ .none → parityBit s.cfg.parity d ≠ some p →
        (∀ a, Memory.read t.rx a = Memory.read s.rx a) ∧ t.rxlen = s.rxlen ∧ t.tr.ioErr = true))

/-! ### Transport -/

/-- TR.GAP (R193): it waits, once a character being sent has ended (log 29) and a transaction that is DONE has had its tick
(R191), until the line has been idle for `T35_TICKS`, and no tick longer; on a quiet line that is `T35_TICKS − tr.idle_cnt`
ticks. Only time and the line go on. That it ends in every state is no rule (R410 lets it wait for ever): the line to come is
finite and idle afterwards (log 14); that the UI agent's clock stands still meanwhile is log 10. -/
def Obligations.GapWaitsForSilence : Prop :=
  ∀ s w : State, cfgWf s.cfg = true → s.tr.idleCnt ≤ t35Ticks s.cfg → w = leaveDone (drain s) → ∃ t n,
    exec .trGap s = .next t ∧
    t.tr.phase = .gap ∧ t.tr.idleCnt = t35Ticks s.cfg ∧ t.urx = urxOff ∧ t.utx = w.utx ∧ t.utx.busy = false ∧
    t.dirState = s.dirState ∧ t.res = .none ∧ t.now = w.now + BitVec.ofNat 64 n ∧
    (s.tr.phase ≠ .done → w = drain s) ∧
    (s.tr.phase = .done → s.utx.busy = false → w.now = s.now + 1 ∧ w.env.line = s.env.line.tail) ∧
    (∀ k, k < n → idleAfter (t35Ticks s.cfg) w.tr.idleCnt w.env.line k < t35Ticks s.cfg) ∧
    (w.env.line = [] → n = t35Ticks s.cfg - w.tr.idleCnt) ∧ SendFrame s t ∧
    ∀ a, Memory.read t.tx a = Memory.read s.tx a ∧ Memory.read t.rx a = Memory.read s.rx a

/-- TR.TXEN (R194): the direction is asserted, the phase is TX, the index 0, the receiver off, the counters of the phases it
leaves cleared (R11), and `tr.max_len` that of the configured request if no transaction was under way (log 22); nothing else
changes. TR.FLUSH (R196): what is still to be sent is sent, for exactly that many ticks;
after it `utx.busy` is 0; the direction stays. -/
def Obligations.TxenAndFlush : Prop :=
  ∀ s : State,
    exec .trTxen s = .next { s with
      dirState := true, urx := urxOff, res := .none
      tr := { s.tr with
        phase := .tx, txidx := 0, turnCnt := 0, silenceCnt := 0, timeoutCnt := 0
        maxLen := if s.tr.phase = .idle ∨ s.tr.phase = .done then 5 + 2 * s.cfg.count else s.tr.maxLen } } ∧
    ∃ t, exec .trFlush s = .next t ∧ t.utx.busy = false ∧ t.tr.phase = .flush ∧ t.dirState = s.dirState ∧
      t.urx = urxOff ∧ t.now = s.now + BitVec.ofNat 64 (pendingLevels s).length ∧
      t.env.txdLog = s.env.txdLog ++ pendingLevels s ∧ t.res = .none ∧ SendFrame s t ∧
      ∀ a, Memory.read t.tx a = Memory.read s.tx a ∧ Memory.read t.rx a = Memory.read s.rx a

/-- TR.WRITE (R195): the request bytes from `tr.txidx` on (TR.TXEN sets it to 0, log 22) go onto the line in order, back to
back, after what is still to be sent (log 29), and are counted; when all eight have been counted nothing happens; with no request
in `txbuf` the read of it is a fault (R64). That it sends in every state, outside phase TX and with `dir_state` = 0 too, where R79
and R192 let the block transmit inside a transaction only, is the model's choice (log 40), and so is `utx.shift` at 0 after it
(log 30). -/
def Obligations.WriteSendsTheRequest : Prop :=
  ∀ s : State, cfgWf s.cfg = true →
    (∀ req, txOperand s = some req →
      (s.tr.txidx < 8 → ∃ t, exec .trWrite s = .next t ∧ t.tr.txidx = 8 ∧ t.utx = utxOff ∧ t.uartTxd = true ∧
        t.env.txdLog = s.env.txdLog ++ pendingLevels s ++
          (req.drop s.tr.txidx).flatMap (fun d => onLine s.cfg (charLevels s.cfg d)) ∧
        t.now = s.now + BitVec.ofNat 64 ((pendingLevels s).length + (8 - s.tr.txidx) * charTicks s.cfg) ∧
        t.dirState = s.dirState ∧ t.urx = s.urx ∧ t.res = .none ∧ SendFrame s t ∧
        ∀ a, Memory.read t.tx a = Memory.read s.tx a ∧ Memory.read t.rx a = Memory.read s.rx a) ∧
      (8 ≤ s.tr.txidx → exec .trWrite s = .next { s with res := .none })) ∧
    ((∃ k, k < 8 ∧ Memory.read s.tx k = none) → exec .trWrite s = .fault (.noValue .txbuf))

/-- TR.RXEN (R197, R198): on the tick after the transmitter has finished the direction is released; after `TURNAROUND_TICKS`
ticks the receiver is on, the buffer and the counters of the reception are empty, the phase is RX; the link oracle's next
answer, if there is one, is on the line (R205). `tr.max_len` is that of the configured request if no transaction was under way
(log 22). -/
def Obligations.RxenReleasesAndListens : Prop :=
  ∀ s : State, ∃ t, exec .trRxen s = .next t ∧ t.dirState = false ∧ t.utx.busy = false ∧ t.tr.phase = .rx ∧
    t.urx = urxOn ∧ t.rxlen = 0 ∧ (∀ a, Memory.read t.rx a = none) ∧ t.tr.ioErr = false ∧ t.tr.silenceCnt = 0 ∧
    t.tr.timeoutCnt = 0 ∧ t.res = .none ∧
    t.tr.maxLen = (if s.tr.phase = .idle ∨ s.tr.phase = .done then 5 + 2 * s.cfg.count else s.tr.maxLen) ∧
    t.now = s.now + BitVec.ofNat 64 ((pendingLevels s).length + 1 + s.cfg.turnaround) ∧
    t.env.txdLog = s.env.txdLog ++ pendingLevels s ∧ t.env.answers = s.env.answers.tail ∧
    (∀ ev rest, s.env.answers = ev :: rest → t.env.line = renderAnswer s.cfg ev) ∧ LinkFrame s t ∧
    ∀ a, Memory.read t.tx a = Memory.read s.tx a

/-- TR.READ (R199, R202): once a character being sent has ended (log 29) the reception's ticks pass, `RX` holds exactly the
accepted bytes, the receiver is off, the phase is DONE, and the result is `IoFailure` on an errored character, else `Timeout` when
nothing was accepted, else the bytes; with no transaction under way `tr.max_len` holds no value and its read is a fault (R64).
That it reads in every other phase too, hears nothing where the receiver is not enabled, and leaves the direction as it is, at
transmit too (R208), is the model's choice (log 22), and so is `tr.max_len` in such a phase (log 6, log 22). -/
def Obligations.ReadGivesTheReception : Prop :=
  ∀ s : State,
    (s.tr.phase ≠ .idle → ∃ t w r, exec .trRead s = .next t ∧ w = drain s ∧ (s.utx.busy = false → w = s) ∧
      w.tr.maxLen = s.tr.maxLen ∧ r = reception s.tr.maxLen w ∧ t.tr.phase = .done ∧ t.utx.busy = false ∧
      t.env.txdLog = s.env.txdLog ++ pendingLevels s ∧
      t.urx = urxOff ∧ t.dirState = s.dirState ∧ t.rxlen = r.bytes.length ∧ (∀ k, Memory.read t.rx k = r.bytes[k]?) ∧
      t.tr.ioErr = r.ioErr ∧ t.now = s.now + BitVec.ofNat 64 ((pendingLevels s).length + r.endTick) ∧
      t.res = .transport (if r.ioErr then .err .ioFailure else if r.bytes = [] then .err .timeout else .ok r.bytes) ∧
      LinkFrame s t ∧ ∀ a, Memory.read t.tx a = Memory.read s.tx a) ∧
    (s.tr.phase = .idle → exec .trRead s = .fault (.noValue .maxLen))

/-- Which characters a reception accepts (R199, R203), and which of its three ends it has, at which tick: the accepted ones are
those of a prefix of the answer, each ended by the response timeout, none after a silence of `T35_TICKS`, none once `m` bytes are
there; it stops short of the answer's end only at `m` bytes, at a silence, or at the timeout. With `m` bytes it ends by length
with the last of them; otherwise, when a silence of `T35_TICKS` follows the last character, by silence that much later; otherwise
by timeout. A silence that would be complete only after the timeout is a timeout (log 12). -/
def Obligations.AcceptedCharactersAreAPrefix : Prop :=
  ∀ (c : Cfg) (m : Nat) (ev : Answer), cfgWf c = true → 1 ≤ m →
    ∃ k r, r = receiveLoop (rxBounds c m) 0 false [] false ev ∧ k ≤ ev.length ∧
      r.bytes = answerBytes (ev.take k) ∧ r.ioErr = (ev.take k).any (fun e => e.2 = .error) ∧ r.endTick ≤ c.respTimeout ∧
      (∀ j, j < k → charEnd (charTicks c) ev j ≤ c.respTimeout) ∧
      (∀ j e, 1 ≤ j → j < k → ev[j]? = some e → e.1 < t35Ticks c) ∧
      (∀ j, j < k → (answerBytes (ev.take j)).length < m) ∧ (answerBytes (ev.take k)).length ≤ m ∧
      (k < ev.length → (answerBytes (ev.take k)).length = m ∨ c.respTimeout < charEnd (charTicks c) ev k ∨
        (1 ≤ k ∧ ∃ e, ev[k]? = some e ∧ t35Ticks c ≤ e.1)) ∧
      (r.reason, r.endTick) =
        (if (answerBytes (ev.take k)).length = m then (.maxlen, charEnd (charTicks c) ev (k - 1))
        else if 1 ≤ k ∧ (∀ e, ev[k]? = some e → t35Ticks c ≤ e.1) ∧
            charEnd (charTicks c) ev (k - 1) + t35Ticks c ≤ c.respTimeout then
          (.silence, charEnd (charTicks c) ev (k - 1) + t35Ticks c)
        else (.timeout, c.respTimeout))

/-- Tick by tick and at once (R199, R201, R203; log 11, and log 13 for glitches): from receive-enable on, the reception goes on
for exactly the ticks the operation gives it, and then the buffer and the error flag hold what the operation puts there. -/
def Obligations.ReceptionTickByTick : Prop :=
  ∀ s : State, cfgWf s.cfg = true → s.tr.phase = .rx → s.urx = urxOn → s.rx = [] → s.rxlen = 0 → s.tr.silenceCnt = 0 →
    s.tr.timeoutCnt = 0 → s.tr.ioErr = false → s.dirState = false → 5 ≤ s.tr.maxLen →
    ∃ r, r = reception s.tr.maxLen s ∧
      (∀ k, k < r.endTick → receptionOver (lineTicks k s) = false) ∧
      receptionOver (lineTicks r.endTick s) = true ∧ (lineTicks r.endTick s).rxlen = r.bytes.length ∧
      (∀ k, Memory.read (lineTicks r.endTick s).rx k = r.bytes[k]?) ∧
      (lineTicks r.endTick s).tr.ioErr = r.ioErr

/-- TR.TRANSACT completes (R190, R202), in every state: the phase is DONE (R191), the direction is receive, the receiver off,
nothing is being sent; `Ok` carries between 1 and `m` bytes, and they are what `RX` holds; no other unit's element changes. R410
lets its first step wait for ever: it ends here because the line to come is finite and idle afterwards (log 14). That any request
is taken, a `REQ` or not, and any `m`, is the model's choice (log 43). -/
def Obligations.TransactCompletes : Prop :=
  ∀ (s : State) (req : List Byte) (m : Nat), cfgWf s.cfg = true → 1 ≤ m → ∃ t r, exec (.trTransact req m) s = .next t ∧
    t.res = .transport r ∧ t.tr.phase = .done ∧ t.dirState = false ∧ t.urx = urxOff ∧ t.utx.busy = false ∧
    t.tr.maxLen = m ∧
    (∀ bs, r = .ok bs → 1 ≤ bs.length ∧ bs.length ≤ m ∧ t.rxlen = bs.length ∧ ∀ k, Memory.read t.rx k = bs[k]?) ∧
    (r = .err .timeout → t.rxlen = 0) ∧ (r = .err .ioFailure ↔ t.tr.ioErr = true) ∧
    t.env.answers = s.env.answers.tail ∧ LinkFrame s t ∧ ∀ a, Memory.read t.tx a = Memory.read s.tx a

/-- TR.TRANSACT is its six steps in order (R190, R107): the same state and the same result. The six rows have no operands: the
request is that of `txbuf`, and `m` is `tr.max_len`, which a transaction that begins with TR.GAP takes from the configured
request (log 22). In the block by itself the transaction goes through its phases in the same order (R191), and leaves each exactly
when the phase's rule says: GAP when `tr.idle_cnt` has reached `T35_TICKS` (R193), TX when the eight bytes have been handed over,
one whenever the transmitter is free (R195), FLUSH with the tick after the transmitter has become free, which releases the
direction (R197), TURN when `tr.turn_cnt`, which counts every tick, has reached `TURNAROUND_TICKS` (R198), RX when the reception is
over (R199). That a move takes no time is log 11, where TX ends and what phase the releasing tick is in is log 35. -/
def Obligations.TransactIsItsSixSteps : Prop :=
  (∀ (s : State) (req : List Byte) (m : Nat), txOperand s = some req →
    m = (if s.tr.phase = .idle ∨ s.tr.phase = .done then 5 + 2 * s.cfg.count else s.tr.maxLen) →
    ∃ t, runAll [.trGap, .trTxen, .trWrite, .trFlush, .trRxen, .trRead] s = .next t ∧ exec (.trTransact req m) s = .next t) ∧
  ∀ s : State, s.mst.phase = .transact →
    (s.tr.phase = .idle → ∃ t, pollMove s = some (.next t) ∧ t.tr.phase = .gap ∧ t.tr.maxLen = 5 + 2 * s.cfg.count ∧
      t.dirState = s.dirState) ∧
    (s.tr.phase = .gap → (s.tr.idleCnt < t35Ticks s.cfg → pollMove s = none) ∧
      (t35Ticks s.cfg ≤ s.tr.idleCnt → ∃ t, pollMove s = some (.next t) ∧ t.tr.phase = .tx ∧ t.tr.txidx = 0 ∧
        t.dirState = true ∧ t.urx = urxOff)) ∧
    (s.tr.phase = .tx → (s.utx.busy = true → pollMove s = none) ∧
      (∀ d, s.utx.busy = false → s.tr.txidx < 8 → Memory.read s.tx s.tr.txidx = some d → ∃ t, pollMove s = some (.next t) ∧
        t.utx = (loadChar d s).utx ∧ t.uartTxd = (loadChar d s).uartTxd ∧ t.tr.txidx = s.tr.txidx + 1 ∧
        t.tr.phase = (if s.tr.txidx = 7 then .flush else .tx) ∧ t.dirState = s.dirState) ∧
      (s.utx.busy = false → 8 ≤ s.tr.txidx → ∃ t, pollMove s = some (.next t) ∧ t.tr.phase = .flush ∧
        t.dirState = s.dirState)) ∧
    (s.tr.phase = .flush → pollMove s = none ∧
      (s.utx.busy = true → (tick s).tr.phase = .flush ∧ (tick s).dirState = s.dirState) ∧
      (s.utx.busy = false → (tick s).tr.phase = .turn ∧ (tick s).dirState = false ∧ (tick s).tr.turnCnt = 0)) ∧
    (s.tr.phase = .turn → (s.tr.turnCnt < s.cfg.turnaround → pollMove s = none ∧ (tick s).tr.turnCnt = s.tr.turnCnt + 1) ∧
      (s.cfg.turnaround ≤ s.tr.turnCnt → ∃ t, pollMove s = some (.next t) ∧ t.tr.phase = .rx ∧ t.urx = urxOn ∧
        t.rxlen = 0 ∧ t.env.answers = s.env.answers.tail ∧
        ∀ ev rest, s.env.answers = ev :: rest → t.env.line = renderAnswer s.cfg ev)) ∧
    (s.tr.phase = .rx → (receptionOver s = false → pollMove s = none) ∧
      (receptionOver s = true → ∃ t, pollMove s = some (.next t) ∧ t.tr.phase = .done ∧ t.urx = urxOff ∧
        t.rx = s.rx ∧ t.rxlen = s.rxlen ∧ t.tr.ioErr = s.tr.ioErr)) ∧
    (s.tr.phase = .done → (tick s).tr.phase = .idle)

/-- The length of a transaction on an idle line (R421): at most `T35_TICKS + 8 × CHAR_TICKS + 1 + TURNAROUND_TICKS +
RESP_TIMEOUT_TICKS` ticks; and a full answer that begins `g` ticks after receive-enable ends the reception by length at
`g + m × CHAR_TICKS`. That any eight bytes are a request is the model's choice (log 43). -/
def Obligations.TransactionLength : Prop :=
  (∀ (s : State) (req : List Byte) (m : Nat), cfgWf s.cfg = true → 1 ≤ m → req.length = 8 → s.utx.busy = false →
    s.env.line = [] → ∃ t n, exec (.trTransact req m) s = .next t ∧ t.now = s.now + BitVec.ofNat 64 n ∧
      n ≤ t35Ticks s.cfg + 8 * charTicks s.cfg + 1 + s.cfg.turnaround + s.cfg.respTimeout) ∧
  (∀ (c : Cfg) (g : Nat) (bytes : List Byte), cfgWf c = true → bytes ≠ [] →
    g + bytes.length * charTicks c ≤ c.respTimeout →
    receiveLoop (rxBounds c bytes.length) 0 false [] false (answerOf g bytes) =
      { bytes := bytes, ioErr := false, reason := .maxlen, endTick := g + bytes.length * charTicks c })

/-! ### Modbus master -/

/-- MST.POLL (R240 to R242, R247): a valid triple completes with a result; `txbuf` holds the request of R160; a frame has `n`
registers and stands in `regframe` (one that has not been consumed is replaced, log 39); the last attempt's number is at most `RETRY_COUNT`; the slot, the report, the UI agent and
the configuration are as before. It has no rule for an invalid triple and refuses it (log 18). That it completes in every state
rests on the finite line of log 14 (R410); that the master then waits for its next cycle is log 37. -/
def Obligations.PollCompletes : Prop :=
  ∀ (s : State) (slave : Byte) (a n : U16), cfgWf s.cfg = true →
    (validPoll s.cfg slave a n = true → ∃ t r, exec (.mstPoll slave a n) s = .next t ∧ t.res = .poll r ∧
      (∀ k, k < 8 → Memory.read t.tx k = (requestBytes slave a n)[k]?) ∧
      (∀ k, 8 ≤ k → Memory.read t.tx k = Memory.read s.tx k) ∧
      (∀ f, r = .ok f → f.length = n.toNat ∧ t.regframe = f ∧ t.regframeValid = true) ∧
      (∀ e, r = .err e → t.regframe = s.regframe ∧ t.regframeValid = s.regframeValid) ∧
      t.mst.attempt ≤ s.cfg.retryCount ∧ t.dirState = false ∧ t.urx = urxOff ∧ t.tr.phase = .done ∧ t.mst.phase = .wait ∧
      PollFrame s t) ∧
    (validPoll s.cfg slave a n = false → exec (.mstPoll slave a n) s = .refused .invalidPollOperands)

/-- Exact attempt counts (R246): a poll makes `k` attempts, `1 ≤ k ≤ 1 + RETRY_COUNT`; all but the last end in the retry class;
the last ends in success, in the no-retry class, or is attempt `1 + RETRY_COUNT`. Hence a Transport that always times out gives
`Unreachable` after exactly `1 + RETRY_COUNT` attempts, and an exception response `ProtocolFault` after exactly one. -/
def Obligations.ExactAttemptCounts : Prop :=
  ∀ (s : State) (slave : Byte) (a n : U16), validPoll s.cfg slave a n = true →
    ∃ t r k, exec (.mstPoll slave a n) s = .next t ∧ t.res = .poll r ∧ 1 ≤ k ∧ k ≤ 1 + s.cfg.retryCount ∧
      t.env.answers = s.env.answers.drop k ∧ t.mst.attempt + 1 = k ∧
      (∃ o : Nat → AttemptResult, (∀ j, o j = (attempt (requestBytes slave a n) slave n
          (attemptStart (requestBytes slave a n) slave n j (pollStart slave a n s))).2) ∧
        (∀ j, j + 1 < k → verdict (o j) = .retry) ∧
        ((∃ f, verdict (o (k - 1)) = .success f ∧ r = .ok f) ∨
          (verdict (o (k - 1)) = .reject ∧ r = .err .protocolFault) ∨
          (verdict (o (k - 1)) = .retry ∧ k = 1 + s.cfg.retryCount ∧ r = .err .unreachable)) ∧
        ((∀ j, o j = .transport .timeout) → r = .err .unreachable ∧ k = 1 + s.cfg.retryCount) ∧
        (∀ code, o 0 = .decoded (.err (.exceptionResponse code)) → r = .err .protocolFault ∧ k = 1))

/-- Which outcomes are retried (the table of R244). -/
def Obligations.RetryClasses : Prop :=
  (∀ f, verdict (.decoded (.ok f)) = .success f) ∧
  (∀ o, verdict o = .retry ↔ o = .transport .timeout ∨ o = .transport .ioFailure ∨ o = .decoded (.err .crcMismatch) ∨
    o = .decoded (.err .shortFrame)) ∧
  (∀ o, verdict o = .reject ↔ o = .decoded (.err .slaveMismatch) ∨ ∃ code, o = .decoded (.err (.exceptionResponse code)))

/-- A slave that answers (R176, R205, R242): if the link oracle's next answer is the response with the registers `v`, back to
back within the timeout, the poll gives `v` on its first attempt, and `regframe` holds it (one that has not been consumed is
replaced, log 39). -/
def Obligations.GoodAnswerIsTheResult : Prop :=
  ∀ (s : State) (slave : Byte) (a n : U16) (func : BitVec 7) (v : List U16) (g : Nat) (rest : List Answer),
    cfgWf s.cfg = true → validPoll s.cfg slave a n = true → v.length = n.toNat →
    g + (5 + 2 * n.toNat) * charTicks s.cfg ≤ s.cfg.respTimeout →
    s.env.answers = answerOf g (withCrc (rspBody slave func v)) :: rest →
    ∃ t, exec (.mstPoll slave a n) s = .next t ∧ t.res = .poll (.ok v) ∧ t.regframe = v ∧ t.regframeValid = true ∧
      t.mst.attempt = 0 ∧ t.env.answers = rest

/-- A silent slave (R202, R246): if the line stays silent on every attempt, the poll gives `Unreachable` after exactly
`1 + RETRY_COUNT` attempts, and `rxlen` is 0. -/
def Obligations.SilentSlaveIsUnreachable : Prop :=
  ∀ (s : State) (slave : Byte) (a n : U16) (rest : List Answer), cfgWf s.cfg = true → validPoll s.cfg slave a n = true →
    s.env.answers = List.replicate (1 + s.cfg.retryCount) [] ++ rest →
    ∃ t, exec (.mstPoll slave a n) s = .next t ∧ t.res = .poll (.err .unreachable) ∧ t.mst.attempt = s.cfg.retryCount ∧
      t.env.answers = rest ∧ t.rxlen = 0

/-- MST.CYCLE (R248 to R250, R252): with a well-formed configuration a cycle always completes: it reports the code of its
poll's result (R352: 0 `Ok`, 1 `Unreachable`, 2 `ProtocolFault`) and raises `poll_done`; on success the slot holds the conversion
of the frame, at the time it was converted; on failure the slot is as before. The UI agent's elements are as before (its clock stands still over the cycle's ticks: log 10).
That the cycle always ends rests on the finite line of log 14: R410 lets the gap before an attempt last for ever. -/
def Obligations.CycleCompletes : Prop :=
  ∀ s : State, cfgWf s.cfg = true → ∃ t, exec .mstCycle s = .next t ∧ t.mst.phase = .wait ∧ t.pollDone = true ∧
    t.res = .none ∧ t.cfg = s.cfg ∧ uiSide t = uiSide s ∧
    (∀ k, k < 8 → Memory.read t.tx k = (requestBytes s.cfg.slaveId s.cfg.startReg (countOperand s.cfg))[k]?) ∧
    (∀ k, 8 ≤ k → Memory.read t.tx k = Memory.read s.tx k) ∧
    (∀ r, r = (configuredPoll (awaitInterval s)).2 → ((∃ f, r = .ok f) → t.pollStatus = 0) ∧
      (r = .err .unreachable → t.pollStatus = 1) ∧ (r = .err .protocolFault → t.pollStatus = 2)) ∧
    ((t.pollStatus = 0 ∧ t.regframeValid = false ∧ ∃ v i, t.regframe[s.cfg.vIdx]? = some v ∧
        t.regframe[s.cfg.iIdx]? = some i ∧
        t.snap = {
          valid := true, voltage := scaleV s.cfg.numerics v, current := scaleI s.cfg.numerics i
          power := mulNum s.cfg.numerics (scaleV s.cfg.numerics v) (scaleI s.cfg.numerics i), timestamp := t.now
          alert := geNum s.cfg.numerics (scaleI s.cfg.numerics i) s.cfg.threshold }) ∨
      ((t.pollStatus = 1 ∨ t.pollStatus = 2) ∧ t.snap = s.snap))

/-- What a cycle publishes and reports. A failed cycle, presented as MST.CYCLE, leaves the snapshot as it was (R250). In the block's
own cycle (R248) only the move of phase CONVERT writes the slot, with the conversion of `regframe` at that time (R249), and only
the move of phase REPORT writes `poll_status` and raises `poll_done` (R252). What it reports waits in `mst.result` (log 21): 0 from
a frame's CONVERT on, 2 when the decoder's error is one that R244 does not retry, 1 when the last attempt's error is one that it
does; a failed poll goes to REPORT directly (R250). A tick changes neither slot nor status and ends the pulse of `poll_done`.
And every phase has its move, exactly when its rule says (R242, R248; log 11): WAIT goes to ENCODE when the interval has elapsed
(R403), ENCODE puts the request into `txbuf` and begins the first attempt; a transaction that is DONE goes to DECODE with bytes, and
otherwise, like a frame the decoder does not accept, to BACKOFF with one more attempt counted while attempts are left (R243,
R244), and to REPORT when none is; BACKOFF ends, and the next attempt begins with the same request, when `mst.backoff_cnt`, which
counts every tick, has reached `BACKOFF_TICKS` (R245); a valid frame is converted, and a report always ends. An attempt begins with
phase GAP, after the tick of a transaction that is DONE (R191; log 38). -/
def Obligations.FailedCycleKeepsTheSnapshot : Prop :=
  (∀ s t : State, exec .mstCycle s = .next t → t.pollStatus ≠ 0 → t.snap = s.snap) ∧
  (∀ s t : State, pollMove s = some (.next t) →
    (s.mst.phase ≠ .convert → t.snap = s.snap) ∧
    (s.mst.phase = .convert → t.mst.phase = .report ∧ t.mst.result = s.mst.result ∧ t.regframeValid = false ∧ ∃ v i,
      s.regframe[s.cfg.vIdx]? = some v ∧ s.regframe[s.cfg.iIdx]? = some i ∧
      t.snap = {
        valid := true, voltage := scaleV s.cfg.numerics v, current := scaleI s.cfg.numerics i
        power := mulNum s.cfg.numerics (scaleV s.cfg.numerics v) (scaleI s.cfg.numerics i), timestamp := s.now
        alert := geNum s.cfg.numerics (scaleI s.cfg.numerics i) s.cfg.threshold }) ∧
    (s.mst.phase ≠ .report → t.pollStatus = s.pollStatus ∧ t.pollDone = s.pollDone) ∧
    (s.mst.phase = .report → t.pollStatus = s.mst.result ∧ t.pollDone = true ∧ t.mst.phase = .wait) ∧
    (s.mst.phase ≠ .convert → t.mst.phase = .report → s.mst.phase = .transact ∨ s.mst.phase = .decode) ∧
    (s.mst.phase = .transact → t.mst.phase = .report → t.mst.result = 1) ∧
    (s.mst.phase = .decode → t.mst.phase = .report → ∃ bytes d, rxOperand s = some bytes ∧
      d = decodeResponse bytes s.cfg.slaveId (countOperand s.cfg) ∧
      (verdict (.decoded d) = .reject ∧ t.mst.result = 2 ∨ verdict (.decoded d) = .retry ∧ t.mst.result = 1)) ∧
    (t.mst.phase = .convert → t.mst.result = 0 ∧ t.regframeValid = true)) ∧
  (∀ s : State, (tick s).pollDone = false ∧ (tick s).snap = s.snap ∧ (tick s).pollStatus = s.pollStatus ∧
    (tick s).mst.intervalCnt = min s.cfg.pollInterval (s.mst.intervalCnt + 1) ∧
    (s.mst.phase = .backoff → (tick s).mst.backoffCnt = min s.cfg.backoff (s.mst.backoffCnt + 1))) ∧
  ∀ s : State,
    (s.mst.phase = .wait → (s.mst.intervalCnt < s.cfg.pollInterval → pollMove s = none) ∧
      (s.cfg.pollInterval ≤ s.mst.intervalCnt →
        pollMove s = some (.next { s with mst := { s.mst with phase := .encode, intervalCnt := 0 } }))) ∧
    (s.mst.phase = .encode → ∃ t, pollMove s = some (.next t) ∧ t.mst.phase = .transact ∧ t.mst.attempt = 0 ∧
      (∀ k, k < 8 → Memory.read t.tx k = (requestBytes s.cfg.slaveId s.cfg.startReg (countOperand s.cfg))[k]?) ∧
      (s.tr.phase ≠ .done → t.tr.phase = .gap) ∧ (s.tr.phase = .done → t.tr.phase = .done ∧ t.mst.held = true)) ∧
    (s.mst.phase = .transact → s.tr.phase = .done → (s.mst.held = true → pollMove s = none) ∧
      ∀ bytes, s.mst.held = false → rxOperand s = some bytes → ∃ t, pollMove s = some (.next t) ∧
        (s.tr.ioErr = false → bytes ≠ [] → t.mst.phase = .decode ∧ t.mst.attempt = s.mst.attempt) ∧
        (s.tr.ioErr = true ∨ bytes = [] →
          (s.mst.attempt < s.cfg.retryCount →
            t.mst.phase = .backoff ∧ t.mst.attempt = s.mst.attempt + 1 ∧ t.mst.backoffCnt = 0) ∧
          (s.cfg.retryCount ≤ s.mst.attempt → t.mst.phase = .report))) ∧
    (s.mst.phase = .decode → ∀ bytes d, rxOperand s = some bytes →
      d = decodeResponse bytes s.cfg.slaveId (countOperand s.cfg) → ∃ t, pollMove s = some (.next t) ∧
        (∀ f, d = .ok f → t.mst.phase = .convert ∧ t.regframe = f ∧ t.regframeValid = true) ∧
        (verdict (.decoded d) = .reject → t.mst.phase = .report) ∧
        (verdict (.decoded d) = .retry →
          (s.mst.attempt < s.cfg.retryCount →
            t.mst.phase = .backoff ∧ t.mst.attempt = s.mst.attempt + 1 ∧ t.mst.backoffCnt = 0) ∧
          (s.cfg.retryCount ≤ s.mst.attempt → t.mst.phase = .report))) ∧
    (s.mst.phase = .backoff → (s.mst.backoffCnt < s.cfg.backoff → pollMove s = none) ∧
      (s.cfg.backoff ≤ s.mst.backoffCnt → ∃ t, pollMove s = some (.next t) ∧ t.mst.phase = .transact ∧
        t.mst.attempt = s.mst.attempt ∧ t.tx = s.tx ∧ (s.tr.phase ≠ .done → t.tr.phase = .gap) ∧
        (s.tr.phase = .done → t.tr.phase = .done ∧ t.mst.held = true))) ∧
    (s.mst.phase = .convert → s.regframeValid = true → s.cfg.vIdx < s.regframe.length → s.cfg.iIdx < s.regframe.length →
      ∃ t, pollMove s = some (.next t)) ∧
    (s.mst.phase = .report → ∃ t, pollMove s = some (.next t))

/-! ### Sample pipeline -/

/-- SP.CONVERT (R271 to R273): on a valid `regframe` with the two registers it gives the Measurement and the Alert State of R271
and consumes the frame, nothing else (that its length is not looked at is log 36); with exact rationals power is the product
and equality with the threshold is an alert; without a valid frame, or in one without one of the registers, the element holds
no value, and its read is a fault (R64). -/
def Obligations.ConvertMeasures : Prop :=
  ∀ s : State,
    (∀ v i, s.regframeValid = true → s.regframe[s.cfg.vIdx]? = some v → s.regframe[s.cfg.iIdx]? = some i →
      exec (.spConvert .regframe) s = .next { s with
        regframeValid := false
        res := .measurement
          { voltage := scaleV s.cfg.numerics v, current := scaleI s.cfg.numerics i
            power := mulNum s.cfg.numerics (scaleV s.cfg.numerics v) (scaleI s.cfg.numerics i), timestamp := s.now }
          (geNum s.cfg.numerics (scaleI s.cfg.numerics i) s.cfg.threshold) } ∧
      ∀ kv ki th : Rat, s.cfg.numerics = .exact kv ki → s.cfg.threshold = .rational th →
        scaleV s.cfg.numerics v = .rational (v.toNat * kv) ∧ scaleI s.cfg.numerics i = .rational (i.toNat * ki) ∧
        mulNum s.cfg.numerics (scaleV s.cfg.numerics v) (scaleI s.cfg.numerics i) =
          .rational (v.toNat * kv * (i.toNat * ki)) ∧
        (geNum s.cfg.numerics (scaleI s.cfg.numerics i) s.cfg.threshold = true ↔ th ≤ i.toNat * ki)) ∧
    (s.regframeValid = false ∨ s.regframe[s.cfg.vIdx]? = none ∨ s.regframe[s.cfg.iIdx]? = none →
      exec (.spConvert .regframe) s = .fault (.noValue .regframe))

/-- SP.PUBLISH writes the six elements of the slot at once (R276, R72), and the next ui tick shows them whole, whatever was in
the slot and whatever the buttons do (R322, R327). That it publishes any Measurement and Alert State, and not only results of
SP.CONVERT, which are R276's operands, is the model's choice (log 41). -/
def Obligations.PublishedIsShownWhole : Prop :=
  ∀ (s : State) (m : Measurement) (alert : Bool) (raw : List Bool),
    exec (.spPublish m alert) s = .next { s with
      snap := { valid := true, voltage := m.voltage, current := m.current, power := m.power, timestamp := m.timestamp,
                alert := alert }
      res := .none } ∧
    ∃ t, runAll [.spPublish m alert, .uiTick raw] s = .next t ∧ t.out.meas = some m ∧
      (alert = false → t.out.blink = s.cfg.blinkIdle) ∧ (alert = true → t.blink.armed = true)

/-! ### Debouncer -/

/-- DB.SAMPLE (R292): a sample equal to the stable level clears the pin's counter; the `DEBOUNCE_N`-th differing one in a row
is accepted, with an event exactly on a press; any other counts. The other pins and every other element are as before; a pin
that is not monitored has no state (R290, log 16). A sample presented by itself has its event for a result only (log 44). -/
def Obligations.SampleFollowsTheRule : Prop :=
  ∀ (s : State) (p : Nat) (r : Bool), ∃ t ev, exec (.dbSample p r) s = .next t ∧
    t = { s with db := t.db, res := .event ev } ∧ (∀ q, q ≠ p → t.db.lookup q = s.db.lookup q) ∧
    (s.db.lookup p = none → t.db = s.db ∧ ev = none) ∧
    ∀ st, s.db.lookup p = some st →
      (r = st.stable → t.db.lookup p = some { st with cnt := 0 } ∧ ev = none) ∧
      (r ≠ st.stable → s.cfg.debounceN ≤ st.cnt + 1 →
        t.db.lookup p = some { stable := r, cnt := 0 } ∧ ev = if r then some p else none) ∧
      (r ≠ st.stable → st.cnt + 1 < s.cfg.debounceN → t.db.lookup p = some { st with cnt := st.cnt + 1 } ∧ ev = none)

/-- At most one event per press (R294): after an event the stable level is 1, and while no `DEBOUNCE_N` samples in a row are 0
(counting those the counter already holds) it stays 1 and no further event is emitted. -/
def Obligations.OneEventPerPress : Prop :=
  (∀ (n : Nat) (r : Bool) (p : PinState), (samplePin n r p).2 = true → (samplePin n r p).1.stable = true) ∧
  (∀ (n : Nat) (p : PinState) (rs : List Bool), 1 ≤ n → p.stable = true → p.cnt < n →
    ¬ List.replicate n false <:+: List.replicate p.cnt false ++ rs → ∀ e ∈ pinRun n p rs, e = (true, false))

/-- Bursts (R295): starting from stable level 0, if no `DEBOUNCE_N` samples in a row are 1 (counting those the counter already
holds), no event is emitted and the level stays 0. -/
def Obligations.BurstsGiveNoEvent : Prop :=
  ∀ (n : Nat) (p : PinState) (rs : List Bool), 1 ≤ n → p.stable = false → p.cnt < n →
    ¬ List.replicate n true <:+: List.replicate p.cnt true ++ rs → ∀ e ∈ pinRun n p rs, e = (false, false)

/-- The shift-register realisation (R296) gives the same stable levels and the same events as R292, for every sequence of
samples from reset and every `DEBOUNCE_N`. -/
def Obligations.ShiftRegisterRealisation : Prop :=
  ∀ (n : Nat) (rs : List Bool), 1 ≤ n →
    pinRun n { stable := false, cnt := 0 } rs = shiftRun (shiftPinReset n) rs

/-! ### Display -/

/-- The display operations (R314 to R318, R322, R323 to R325), each with the one element it writes: DSM.TICK in each mode,
DSM.BTN_MEDIA for an index of R312 (refused for any other, log 17), DSM.BTN_SENSOR, DSM.MEAS (the slot is read, not written;
that the outputs take the Measurement at once is log 31), BLK.TICK in its three cases (for any Alert State it carries, log 44). -/
def Obligations.DisplayOperations : Prop :=
  ∀ s : State,
    (∀ i, s.disp.mode = .startup i →
      exec .dsmTick s = .next { s with
        disp := if s.cfg.startupN ≤ s.disp.dwell + 1 then
            { mode := if s.cfg.nMedia ≤ i + 1 then .sensor else .startup (i + 1), dwell := 0 }
          else { mode := .startup i, dwell := s.disp.dwell + 1 }
        res := .none }) ∧
    ((∃ i, s.disp.mode = .media i) ∨ s.disp.mode = .sensor → exec .dsmTick s = .next { s with res := .none }) ∧
    (∀ i, i < s.cfg.nMedia →
      exec (.dsmBtnMedia i) s = .next { s with disp := { mode := .media i, dwell := 0 }, res := .none }) ∧
    (∀ i, s.cfg.nMedia ≤ i → exec (.dsmBtnMedia i) s = .refused .mediaIndexOutOfRange) ∧
    exec .dsmBtnSensor s = .next { s with disp := { mode := .sensor, dwell := 0 }, res := .none } ∧
    (∃ meas, exec .dsmMeas s = .next { s with out := { s.out with meas := meas }, res := .none } ∧
      (s.snap.valid = false → meas = none) ∧
      (s.snap.valid = true → meas = some
        { voltage := s.snap.voltage, current := s.snap.current, power := s.snap.power, timestamp := s.snap.timestamp })) ∧
    exec (.blkTick false) s = .next { s with
      blink := { visible := s.cfg.blinkIdle, cnt := 0, armed := false }, res := .none } ∧
    (s.blink.armed = false → exec (.blkTick true) s = .next { s with
      blink := { visible := true, cnt := 0, armed := true }, res := .none }) ∧
    (s.blink.armed = true → exec (.blkTick true) s = .next { s with
      blink := if s.cfg.blinkN ≤ s.blink.cnt + 1 then { visible := !s.blink.visible, cnt := 0, armed := true }
        else { visible := s.blink.visible, cnt := s.blink.cnt + 1, armed := true }
      res := .none })

/-- UI.TICK is its sequence (R310, R107): DB.SAMPLE on every monitored pin in ascending order, the operation of each event in
the same order, DSM.TICK, DSM.MEAS, BLK.TICK with the slot's alert; then the outputs take mode and blink flag (R327). A presented
one is an extra ui tick (log 44). -/
def Obligations.UiTickIsItsSequence : Prop :=
  ∀ (s : State) (raw : List Bool), cfgWf s.cfg = true → DbOk s.cfg s.db → ∃ s1 evs s2,
    sampleEach raw (monitoredFrom 0 s.cfg.pinmap) s = some (s1, evs) ∧
    runAll (eventInstrs s.cfg evs ++ [.dsmTick, .dsmMeas, .blkTick s.snap.alert]) s1 = .next s2 ∧
    exec (.uiTick raw) s = .next { s2 with
      out := { mode := s2.disp.mode, meas := s2.out.meas, blink := s2.blink.visible } } ∧
    s2 = { s with db := s2.db, disp := s2.disp, blink := s2.blink, out := s2.out, res := .none }

/-- Several events in one ui tick (R319, R320): the mode after the tick is the one the highest-numbered pin with an event maps
to, also in the tick in which a startup item would expire. -/
def Obligations.HighestPinDecides : Prop :=
  ∀ (s : State) (raw : List Bool) (evs : List Nat) (p : Nat), DbOk s.cfg s.db →
    evs = (sampleAll s.cfg.debounceN raw s.db).2 → p ∈ evs → (∀ q ∈ evs, q ≤ p) → ∃ t, exec (.uiTick raw) s = .next t ∧
      (∀ i, pinUse s.cfg p = .media i → t.disp = { mode := .media i, dwell := 0 } ∧ t.out.mode = .media i) ∧
      (pinUse s.cfg p = .sensor → t.disp = { mode := .sensor, dwell := 0 } ∧ t.out.mode = .sensor)

/-- Startup, once left, never resumes (R321): no operation but RESET, and no step of the block by itself without `rst`, leads
from `Media` or `Sensor` back to `Startup`. -/
def Obligations.StartupNeverResumes : Prop :=
  (∀ (i : Instr) (s t : State), i ≠ .reset → s.disp.mode.isStartup = false → exec i s = .next t →
    t.disp.mode.isStartup = false) ∧
  (∀ s t : State, s.env.pend = [] → rstPort s = false → s.disp.mode.isStartup = false → step s = .next t →
    t.disp.mode.isStartup = false)

/-- Startup length (R424, R315): from reset, after `k` ui ticks in none of which a button is pressed (every sampled level is 0),
the mode is `Startup(k / STARTUP_N)`, and from ui tick `N_MEDIA × STARTUP_N` on it is `Sensor`. -/
def Obligations.StartupLength : Prop :=
  ∀ (c : Cfg) (e : Env) (raws : List (List Bool)), cfgWf c = true → (∀ raw ∈ raws, ∀ level ∈ raw, level = false) → ∃ t k,
    k = raws.length ∧ runAll (raws.map .uiTick) (State.resetOf c e) = .next t ∧
    t.disp.mode = (if k < c.nMedia * c.startupN then .startup (k / c.startupN) else .sensor) ∧ t.out.mode = t.disp.mode

/-- The blink (R323, R324): with the alert true from now on, after `k + 1` ticks the flag has flipped `k / BLINK_N` times,
beginning visible. -/
def Obligations.BlinkPeriod : Prop :=
  ∀ (s : State) (k : Nat), 1 ≤ s.cfg.blinkN → s.blink.armed = false → ∃ t,
    runAll (List.replicate (k + 1) (.blkTick true)) s = .next t ∧ t.blink.armed = true ∧
    t.blink.visible = decide (k / s.cfg.blinkN % 2 = 0) ∧ t.blink.cnt = k % s.cfg.blinkN

/-! ### The two agents -/

/-- The agents share the slot only and neither waits for the other (R370, R328, R362, R407). The block's own ui tick is UI.TICK on
the buttons as they are, whatever the poll agent is doing; it changes nothing of the poll side, and what it does to the UI side
is the same in any two states with the same configuration, UI side, slot and buttons. A move of the poll agent and a tick change
nothing of the UI side but its clock, and what they do to the poll side is the same in any two states with the same poll side.
A step, without `rst` and presented words, is the poll agent's move if it has one, else a tick; while a ui tick is due it is
that ui tick or the poll agent's move, as the draw of R361 says (log 9), and no time passes. That moves take no time, and that a
due ui tick comes before the next tick of the clock, is how the model schedules them (log 11). -/
def Obligations.AgentsDoNotDisturbEachOther : Prop :=
  (∀ s t : State, exec (.uiTick (rawOperand s)) s = .next t →
    uiSide (uiMove s) = { uiSide t with ui := { s.ui with due := false } }) ∧
  (∀ s : State, pollSide (uiMove s) = pollSide s ∧ (uiMove s).ui.due = false) ∧
  (∀ s s' : State, s'.cfg = s.cfg → uiSide s' = uiSide s → s'.snap = s.snap → rawOperand s' = rawOperand s →
    uiSide (uiMove s') = uiSide (uiMove s)) ∧
  (∀ s t : State, pollMove s = some (.next t) → uiSide t = uiSide s ∧ t.now = s.now) ∧
  (∀ s : State, uiSide (tick s) = { uiSide s with ui := dividerTick s.cfg s.ui } ∧
    (tick s).now = s.now + 1) ∧
  (∀ s s' : State, pollSide s' = pollSide s → pollSide (tick s') = pollSide (tick s) ∧
    (pollMove s = none → pollMove s' = none) ∧
    ∀ t, pollMove s = some (.next t) → ∃ t', pollMove s' = some (.next t') ∧ pollSide t' = pollSide t) ∧
  (∀ s t : State, s.env.pend = [] → rstPort s = false → s.ui.due = true → step s = .next t → t.now = s.now) ∧
  (∀ s : State, cfgWf s.cfg = true → s.env.pend = [] → rstPort s = false →
    (pollMove s = none → step s = .next (if s.ui.due then uiMove s else tick s)) ∧
    (∀ o, pollMove s = some o → s.ui.due = false → step s = o) ∧
    (∀ t first rest, pollMove s = some (.next t) → s.ui.due = true → s.env.orderNext = first :: rest →
      ∃ t', step s = .next t' ∧ (first = true → uiSide t' = uiSide (uiMove s) ∧ pollSide t' = pollSide s) ∧
        (first = false → pollSide t' = pollSide t ∧ uiSide t' = uiSide s)))

/-- Half duplex (R212, R405): in every sound state and after every step from one, `urx.enable` = 1 implies `dir_state` = 0;
and without `rst` the block by itself releases the direction only when nothing is being sent. -/
def Obligations.HalfDuplexIsKept : Prop :=
  (∀ s : State, Inv s → s.urx.enable = true → s.dirState = false) ∧
  (∀ s t : State, Inv s → step s = .next t → (t.urx.enable = true → t.dirState = false)) ∧
  (∀ s t : State, Inv s → s.env.pend = [] → rstPort s = false → step s = .next t → s.dirState = true →
    t.dirState = false → s.utx.busy = false)
end

