-- ==== Sys2Proof/Laws/Memory.lean ====
section
/-! SUPPORT. The laws of the byte spaces: read after write, every write keeps the canonical form, what a written range
reads as. -/

namespace Sys2Proof.Laws

open Sys2Proof.Machine

/-! ### One byte -/

@[simp] theorem read_nil (a : Nat) : Memory.read [] a = none := rfl

@[simp] theorem read_write_same (m : Memory) (a : Nat) (b : Byte) : Memory.read (Memory.write m a b) a = some b := by
  induction m with
  | nil => simp [Memory.write, Memory.read]
  | cons c m ih =>
    obtain ⟨k, v⟩ := c
    simp only [Memory.write]
    split
    · simp [Memory.read]
    · split
      · simp [Memory.read]
      · have : ¬ k = a := by omega
        simp [Memory.read, this, ih]

@[simp] theorem read_write_other (m : Memory) {a a' : Nat} (b : Byte) (h : a' ≠ a) :
    Memory.read (Memory.write m a b) a' = Memory.read m a' := by
  have h' : ¬ a = a' := fun e => h e.symm
  induction m with
  | nil => simp [Memory.write, Memory.read, h']
  | cons c m ih =>
    obtain ⟨k, v⟩ := c
    simp only [Memory.write]
    split
    · simp [Memory.read, h']
    · split
      · rename_i _ hk
        subst hk
        simp [Memory.read, h']
      · simp only [Memory.read, ih]

/-! ### The canonical form -/

theorem wfFrom_mono {m : Memory} {lo lo' : Nat} (h : lo' ≤ lo) (hm : Memory.wfFrom lo m = true) :
    Memory.wfFrom lo' m = true := by
  cases m with
  | nil => rfl
  | cons c m => simp [Memory.wfFrom] at hm ⊢; exact ⟨by omega, hm.2⟩

theorem wfFrom_write {m : Memory} {lo a : Nat} {b : Byte} (ha : lo ≤ a) (hm : Memory.wfFrom lo m = true) :
    Memory.wfFrom lo (Memory.write m a b) = true := by
  induction m generalizing lo with
  | nil => simp [Memory.write, Memory.wfFrom, ha]
  | cons c m ih =>
    obtain ⟨k, v⟩ := c
    simp only [Memory.wfFrom, Bool.and_eq_true, decide_eq_true_eq] at hm
    simp only [Memory.write]
    split
    · simp [Memory.wfFrom, ha, hm.2]; omega
    · split
      · rename_i _ hk
        subst hk
        simp [Memory.wfFrom, ha, hm.2]
      · simp [Memory.wfFrom, hm.1, ih (lo := k + 1) (by omega) hm.2]

/-- Writing a byte keeps the canonical form. -/
theorem wf_write {m : Memory} (a : Nat) (b : Byte) (hm : Memory.wf m = true) : Memory.wf (Memory.write m a b) = true :=
  wfFrom_write (Nat.zero_le a) hm

/-- Writing a range keeps the canonical form. -/
theorem wf_writeN (bs : List Byte) (m : Memory) (a : Nat) (hm : Memory.wf m = true) :
    Memory.wf (Memory.writeN m a bs) = true := by
  induction bs generalizing m a with
  | nil => exact hm
  | cons b bs ih => exact ih _ _ (wf_write a b hm)

/-- The byte spaces of the machine right after reset are in canonical form. -/
theorem reset_wf : Memory.wf State.reset.tx = true ∧ Memory.wf State.reset.rx = true := ⟨rfl, rfl⟩

/-! ### Ranges -/

/-- Outside the written range nothing changes. -/
theorem read_writeN_other (bs : List Byte) (m : Memory) (a : Nat) {a' : Nat} (h : a' < a ∨ a + bs.length ≤ a') :
    Memory.read (Memory.writeN m a bs) a' = Memory.read m a' := by
  induction bs generalizing m a with
  | nil => rfl
  | cons b bs ih =>
    simp only [List.length_cons] at h
    rw [Memory.writeN, ih _ _ (by omega), read_write_other _ _ (by omega)]

/-- Inside the written range stand the bytes written. -/
theorem read_writeN (bs : List Byte) (m : Memory) (a i : Nat) (h : i < bs.length) :
    Memory.read (Memory.writeN m a bs) (a + i) = bs[i]? := by
  induction bs generalizing m a i with
  | nil => simp at h
  | cons b bs ih =>
    rw [Memory.writeN]
    cases i with
    | zero => rw [read_writeN_other _ _ _ (by omega)]; simp
    | succ i =>
      have := ih (Memory.write m a b) (a + 1) i (by simpa using h)
      rw [show a + (i + 1) = a + 1 + i by omega, this]
      simp

/-- A space whose bytes from `k` on are those of a list reads as that list. -/
theorem readN_of_read (cs : List Byte) (m : Memory) (k : Nat) (h : ∀ i, i < cs.length → Memory.read m (k + i) = cs[i]?) :
    Memory.readN m k cs.length = some cs := by
  induction cs generalizing k with
  | nil => rfl
  | cons c cs ih =>
    have h0 : Memory.read m k = some c := by simpa using h 0 (by simp)
    have h1 := ih (k + 1) (fun i hi => by
      have := h (i + 1) (by simpa using hi)
      rw [show k + 1 + i = k + (i + 1) by omega, this]
      simp)
    simp [Memory.readN, h0, h1]

/-- Reading a written range gives what was written. -/
theorem readN_writeN (bs : List Byte) (m : Memory) (a : Nat) :
    Memory.readN (Memory.writeN m a bs) a bs.length = some bs :=
  readN_of_read bs _ a fun i hi => read_writeN bs m a i hi

/-- A range that reads as a list has a byte at each of its indices. -/
theorem read_of_readN {m : Memory} {a : Nat} {bs : List Byte} {n : Nat} (h : Memory.readN m a n = some bs) :
    bs.length = n ∧ ∀ i, i < n → Memory.read m (a + i) = bs[i]? := by
  induction n generalizing a bs with
  | zero => simp [Memory.readN] at h; subst h; simp
  | succ n ih =>
    simp only [Memory.readN] at h
    split at h
    · rename_i b bs' hb hbs
      obtain ⟨hl, hr⟩ := ih hbs
      cases h
      refine ⟨by simp [hl], fun i hi => ?_⟩
      cases i with
      | zero => simpa using hb
      | succ i => simpa [show a + (i + 1) = a + 1 + i by omega] using hr i (by omega)
    · cases h

/-! ### The cells of a space -/

/-- The cells of a range written into an empty space. -/
theorem writeN_append (m : Memory) (a : Nat) (bs cs : List Byte) :
    Memory.writeN m a (bs ++ cs) = Memory.writeN (Memory.writeN m a bs) (a + bs.length) cs := by
  induction bs generalizing m a with
  | nil => rfl
  | cons b bs ih => simp [Memory.writeN, ih, Nat.add_assoc, Nat.add_comm]

/-- Writing just past a space that holds `0..n−1` extends it by one. -/
theorem keys_write_next {m : Memory} {n : Nat} {b : Byte} (h : m.map Prod.fst = List.range n) :
    (Memory.write m n b).map Prod.fst = List.range (n + 1) := by
  have key : ∀ (m : Memory), (∀ c ∈ m, c.1 < n) → Memory.write m n b = m ++ [(n, b)] := by
    intro m
    induction m with
    | nil => intro _; rfl
    | cons c m ih =>
      intro hc
      obtain ⟨k, v⟩ := c
      have hk : k < n := hc (k, v) (by simp)
      have : ¬ n < k ∧ ¬ n = k := by omega
      simp [Memory.write, this, ih fun c h => hc c (by simp [h])]
  have hlt : ∀ c ∈ m, c.1 < n := fun c hc => by
    have : c.1 ∈ List.range n := h ▸ List.mem_map_of_mem hc
    simpa using this
  rw [key m hlt]
  simp [h, List.range_succ]

/-- A range written into an empty space occupies exactly the indices `0..length−1`. -/
theorem keys_writeN_nil (bs : List Byte) : (Memory.writeN [] 0 bs).map Prod.fst = List.range bs.length := by
  induction bs using List.reverseRecOn with
  | nil => rfl
  | append_singleton bs b ih =>
    rw [writeN_append]
    simpa [Memory.writeN] using keys_write_next (b := b) ih

/-- Writing at an index a space holds keeps its indices. -/
theorem keys_write_mem {m : Memory} {a : Nat} {b : Byte} {n : Nat} (h : m.map Prod.fst = List.range n) (ha : a < n) :
    (Memory.write m a b).map Prod.fst = List.range n := by
  rw [← h]
  have key : ∀ (m : Memory) (lo k : Nat), m.map Prod.fst = List.range' lo k → lo ≤ a → a < lo + k →
      (Memory.write m a b).map Prod.fst = m.map Prod.fst := by
    intro m
    induction m with
    | nil => intro lo k hm _ _; cases k <;> simp_all [List.range']; omega
    | cons c m ih =>
      intro lo k hm h1 h2
      obtain ⟨x, v⟩ := c
      cases k with
      | zero => simp [List.range'] at hm
      | succ k =>
        simp only [List.map_cons, List.range', List.cons.injEq] at hm
        obtain ⟨rfl, hm⟩ := hm
        simp only [Memory.write]
        split
        · omega
        · split
          · rename_i h; simp [h]
          · simp [ih (x + 1) k hm (by omega) (by omega)]
  exact key m 0 n (by rw [h, List.range_eq_range']) (Nat.zero_le _) (by simpa using ha)

/-- The eight request bytes written into `TX`, empty or full, leave exactly the indices 0..7. -/
theorem keys_writeN_tx {m : Memory} (h : m = [] ∨ m.map Prod.fst = List.range 8) (bs : List Byte) (hb : bs.length = 8) :
    (Memory.writeN m 0 bs).map Prod.fst = List.range 8 := by
  rcases h with rfl | h
  · rw [keys_writeN_nil, hb]
  · have key : ∀ (bs : List Byte) (m : Memory) (a : Nat), m.map Prod.fst = List.range 8 → a + bs.length ≤ 8 →
        (Memory.writeN m a bs).map Prod.fst = List.range 8 := by
      intro bs
      induction bs with
      | nil => intro m a hm _; exact hm
      | cons b bs ih =>
        intro m a hm hl
        simp only [List.length_cons] at hl
        exact ih _ _ (keys_write_mem hm (by omega)) (by omega)
    exact key bs m 0 h (by omega)

/-- A space that holds `0..n−1` can be read whole. -/
theorem readN_of_keys {m : Memory} {n : Nat} (h : m.map Prod.fst = List.range n) :
    Memory.readN m 0 n = some (m.map Prod.snd) := by
  have one : ∀ (m : Memory) (lo k i : Nat), m.map Prod.fst = List.range' lo k → i < k →
      Memory.read m (lo + i) = (m.map Prod.snd)[i]? := by
    intro m
    induction m with
    | nil => intro lo k i hm hi; cases k <;> simp_all [List.range']
    | cons c m ih =>
      intro lo k i hm hi
      obtain ⟨x, v⟩ := c
      cases k with
      | zero => omega
      | succ k =>
        simp only [List.map_cons, List.range', List.cons.injEq] at hm
        obtain ⟨rfl, hm⟩ := hm
        cases i with
        | zero => simp [Memory.read]
        | succ i =>
          have := ih (x + 1) k i hm (by omega)
          simp only [Memory.read]
          rw [if_neg (by omega), show x + (i + 1) = x + 1 + i by omega, this]
          simp
  have hlen : (m.map Prod.snd).length = n := by simpa using congrArg List.length h
  have := readN_of_read (m.map Prod.snd) m 0 (fun i hi => one m 0 n i (by rw [h, List.range_eq_range']) (by omega))
  rwa [hlen] at this

end Sys2Proof.Laws
end

