-- ==== Sys2Proof/Laws/State.lean ====
section
/-! SUPPORT. What each named update of the state leaves in each field: one lemma per field per update. -/

namespace Sys2Proof.Laws

open Sys2Proof.Machine

@[simp] theorem setCrc_cfg (s : State) (v : U16) : (s.setCrc v).cfg = s.cfg := rfl
@[simp] theorem setCrc_crc (s : State) (v : U16) : (s.setCrc v).crc = v := rfl
@[simp] theorem setCrc_tx (s : State) (v : U16) : (s.setCrc v).tx = s.tx := rfl
@[simp] theorem setCrc_rx (s : State) (v : U16) : (s.setCrc v).rx = s.rx := rfl
@[simp] theorem setCrc_rxlen (s : State) (v : U16) : (s.setCrc v).rxlen = s.rxlen := rfl
@[simp] theorem setCrc_regframe (s : State) (v : U16) : (s.setCrc v).regframe = s.regframe := rfl
@[simp] theorem setCrc_regframeValid (s : State) (v : U16) : (s.setCrc v).regframeValid = s.regframeValid := rfl
@[simp] theorem setCrc_tr (s : State) (v : U16) : (s.setCrc v).tr = s.tr := rfl
@[simp] theorem setCrc_dirState (s : State) (v : U16) : (s.setCrc v).dirState = s.dirState := rfl
@[simp] theorem setCrc_uartTxd (s : State) (v : U16) : (s.setCrc v).uartTxd = s.uartTxd := rfl
@[simp] theorem setCrc_utx (s : State) (v : U16) : (s.setCrc v).utx = s.utx := rfl
@[simp] theorem setCrc_urx (s : State) (v : U16) : (s.setCrc v).urx = s.urx := rfl
@[simp] theorem setCrc_mst (s : State) (v : U16) : (s.setCrc v).mst = s.mst := rfl
@[simp] theorem setCrc_pollStatus (s : State) (v : U16) : (s.setCrc v).pollStatus = s.pollStatus := rfl
@[simp] theorem setCrc_pollDone (s : State) (v : U16) : (s.setCrc v).pollDone = s.pollDone := rfl
@[simp] theorem setCrc_now (s : State) (v : U16) : (s.setCrc v).now = s.now := rfl
@[simp] theorem setCrc_snap (s : State) (v : U16) : (s.setCrc v).snap = s.snap := rfl
@[simp] theorem setCrc_db (s : State) (v : U16) : (s.setCrc v).db = s.db := rfl
@[simp] theorem setCrc_disp (s : State) (v : U16) : (s.setCrc v).disp = s.disp := rfl
@[simp] theorem setCrc_blink (s : State) (v : U16) : (s.setCrc v).blink = s.blink := rfl
@[simp] theorem setCrc_out (s : State) (v : U16) : (s.setCrc v).out = s.out := rfl
@[simp] theorem setCrc_ui (s : State) (v : U16) : (s.setCrc v).ui = s.ui := rfl
@[simp] theorem setCrc_res (s : State) (v : U16) : (s.setCrc v).res = s.res := rfl
@[simp] theorem setCrc_env (s : State) (v : U16) : (s.setCrc v).env = s.env := rfl
@[simp] theorem setTx_cfg (s : State) (v : Memory) : (s.setTx v).cfg = s.cfg := rfl
@[simp] theorem setTx_crc (s : State) (v : Memory) : (s.setTx v).crc = s.crc := rfl
@[simp] theorem setTx_tx (s : State) (v : Memory) : (s.setTx v).tx = v := rfl
@[simp] theorem setTx_rx (s : State) (v : Memory) : (s.setTx v).rx = s.rx := rfl
@[simp] theorem setTx_rxlen (s : State) (v : Memory) : (s.setTx v).rxlen = s.rxlen := rfl
@[simp] theorem setTx_regframe (s : State) (v : Memory) : (s.setTx v).regframe = s.regframe := rfl
@[simp] theorem setTx_regframeValid (s : State) (v : Memory) : (s.setTx v).regframeValid = s.regframeValid := rfl
@[simp] theorem setTx_tr (s : State) (v : Memory) : (s.setTx v).tr = s.tr := rfl
@[simp] theorem setTx_dirState (s : State) (v : Memory) : (s.setTx v).dirState = s.dirState := rfl
@[simp] theorem setTx_uartTxd (s : State) (v : Memory) : (s.setTx v).uartTxd = s.uartTxd := rfl
@[simp] theorem setTx_utx (s : State) (v : Memory) : (s.setTx v).utx = s.utx := rfl
@[simp] theorem setTx_urx (s : State) (v : Memory) : (s.setTx v).urx = s.urx := rfl
@[simp] theorem setTx_mst (s : State) (v : Memory) : (s.setTx v).mst = s.mst := rfl
@[simp] theorem setTx_pollStatus (s : State) (v : Memory) : (s.setTx v).pollStatus = s.pollStatus := rfl
@[simp] theorem setTx_pollDone (s : State) (v : Memory) : (s.setTx v).pollDone = s.pollDone := rfl
@[simp] theorem setTx_now (s : State) (v : Memory) : (s.setTx v).now = s.now := rfl
@[simp] theorem setTx_snap (s : State) (v : Memory) : (s.setTx v).snap = s.snap := rfl
@[simp] theorem setTx_db (s : State) (v : Memory) : (s.setTx v).db = s.db := rfl
@[simp] theorem setTx_disp (s : State) (v : Memory) : (s.setTx v).disp = s.disp := rfl
@[simp] theorem setTx_blink (s : State) (v : Memory) : (s.setTx v).blink = s.blink := rfl
@[simp] theorem setTx_out (s : State) (v : Memory) : (s.setTx v).out = s.out := rfl
@[simp] theorem setTx_ui (s : State) (v : Memory) : (s.setTx v).ui = s.ui := rfl
@[simp] theorem setTx_res (s : State) (v : Memory) : (s.setTx v).res = s.res := rfl
@[simp] theorem setTx_env (s : State) (v : Memory) : (s.setTx v).env = s.env := rfl
@[simp] theorem setRx_cfg (s : State) (v : Memory) : (s.setRx v).cfg = s.cfg := rfl
@[simp] theorem setRx_crc (s : State) (v : Memory) : (s.setRx v).crc = s.crc := rfl
@[simp] theorem setRx_tx (s : State) (v : Memory) : (s.setRx v).tx = s.tx := rfl
@[simp] theorem setRx_rx (s : State) (v : Memory) : (s.setRx v).rx = v := rfl
@[simp] theorem setRx_rxlen (s : State) (v : Memory) : (s.setRx v).rxlen = s.rxlen := rfl
@[simp] theorem setRx_regframe (s : State) (v : Memory) : (s.setRx v).regframe = s.regframe := rfl
@[simp] theorem setRx_regframeValid (s : State) (v : Memory) : (s.setRx v).regframeValid = s.regframeValid := rfl
@[simp] theorem setRx_tr (s : State) (v : Memory) : (s.setRx v).tr = s.tr := rfl
@[simp] theorem setRx_dirState (s : State) (v : Memory) : (s.setRx v).dirState = s.dirState := rfl
@[simp] theorem setRx_uartTxd (s : State) (v : Memory) : (s.setRx v).uartTxd = s.uartTxd := rfl
@[simp] theorem setRx_utx (s : State) (v : Memory) : (s.setRx v).utx = s.utx := rfl
@[simp] theorem setRx_urx (s : State) (v : Memory) : (s.setRx v).urx = s.urx := rfl
@[simp] theorem setRx_mst (s : State) (v : Memory) : (s.setRx v).mst = s.mst := rfl
@[simp] theorem setRx_pollStatus (s : State) (v : Memory) : (s.setRx v).pollStatus = s.pollStatus := rfl
@[simp] theorem setRx_pollDone (s : State) (v : Memory) : (s.setRx v).pollDone = s.pollDone := rfl
@[simp] theorem setRx_now (s : State) (v : Memory) : (s.setRx v).now = s.now := rfl
@[simp] theorem setRx_snap (s : State) (v : Memory) : (s.setRx v).snap = s.snap := rfl
@[simp] theorem setRx_db (s : State) (v : Memory) : (s.setRx v).db = s.db := rfl
@[simp] theorem setRx_disp (s : State) (v : Memory) : (s.setRx v).disp = s.disp := rfl
@[simp] theorem setRx_blink (s : State) (v : Memory) : (s.setRx v).blink = s.blink := rfl
@[simp] theorem setRx_out (s : State) (v : Memory) : (s.setRx v).out = s.out := rfl
@[simp] theorem setRx_ui (s : State) (v : Memory) : (s.setRx v).ui = s.ui := rfl
@[simp] theorem setRx_res (s : State) (v : Memory) : (s.setRx v).res = s.res := rfl
@[simp] theorem setRx_env (s : State) (v : Memory) : (s.setRx v).env = s.env := rfl
@[simp] theorem setRxlen_cfg (s : State) (v : Nat) : (s.setRxlen v).cfg = s.cfg := rfl
@[simp] theorem setRxlen_crc (s : State) (v : Nat) : (s.setRxlen v).crc = s.crc := rfl
@[simp] theorem setRxlen_tx (s : State) (v : Nat) : (s.setRxlen v).tx = s.tx := rfl
@[simp] theorem setRxlen_rx (s : State) (v : Nat) : (s.setRxlen v).rx = s.rx := rfl
@[simp] theorem setRxlen_rxlen (s : State) (v : Nat) : (s.setRxlen v).rxlen = v := rfl
@[simp] theorem setRxlen_regframe (s : State) (v : Nat) : (s.setRxlen v).regframe = s.regframe := rfl
@[simp] theorem setRxlen_regframeValid (s : State) (v : Nat) : (s.setRxlen v).regframeValid = s.regframeValid := rfl
@[simp] theorem setRxlen_tr (s : State) (v : Nat) : (s.setRxlen v).tr = s.tr := rfl
@[simp] theorem setRxlen_dirState (s : State) (v : Nat) : (s.setRxlen v).dirState = s.dirState := rfl
@[simp] theorem setRxlen_uartTxd (s : State) (v : Nat) : (s.setRxlen v).uartTxd = s.uartTxd := rfl
@[simp] theorem setRxlen_utx (s : State) (v : Nat) : (s.setRxlen v).utx = s.utx := rfl
@[simp] theorem setRxlen_urx (s : State) (v : Nat) : (s.setRxlen v).urx = s.urx := rfl
@[simp] theorem setRxlen_mst (s : State) (v : Nat) : (s.setRxlen v).mst = s.mst := rfl
@[simp] theorem setRxlen_pollStatus (s : State) (v : Nat) : (s.setRxlen v).pollStatus = s.pollStatus := rfl
@[simp] theorem setRxlen_pollDone (s : State) (v : Nat) : (s.setRxlen v).pollDone = s.pollDone := rfl
@[simp] theorem setRxlen_now (s : State) (v : Nat) : (s.setRxlen v).now = s.now := rfl
@[simp] theorem setRxlen_snap (s : State) (v : Nat) : (s.setRxlen v).snap = s.snap := rfl
@[simp] theorem setRxlen_db (s : State) (v : Nat) : (s.setRxlen v).db = s.db := rfl
@[simp] theorem setRxlen_disp (s : State) (v : Nat) : (s.setRxlen v).disp = s.disp := rfl
@[simp] theorem setRxlen_blink (s : State) (v : Nat) : (s.setRxlen v).blink = s.blink := rfl
@[simp] theorem setRxlen_out (s : State) (v : Nat) : (s.setRxlen v).out = s.out := rfl
@[simp] theorem setRxlen_ui (s : State) (v : Nat) : (s.setRxlen v).ui = s.ui := rfl
@[simp] theorem setRxlen_res (s : State) (v : Nat) : (s.setRxlen v).res = s.res := rfl
@[simp] theorem setRxlen_env (s : State) (v : Nat) : (s.setRxlen v).env = s.env := rfl
@[simp] theorem setRegframe_cfg (s : State) (v : List U16) : (s.setRegframe v).cfg = s.cfg := rfl
@[simp] theorem setRegframe_crc (s : State) (v : List U16) : (s.setRegframe v).crc = s.crc := rfl
@[simp] theorem setRegframe_tx (s : State) (v : List U16) : (s.setRegframe v).tx = s.tx := rfl
@[simp] theorem setRegframe_rx (s : State) (v : List U16) : (s.setRegframe v).rx = s.rx := rfl
@[simp] theorem setRegframe_rxlen (s : State) (v : List U16) : (s.setRegframe v).rxlen = s.rxlen := rfl
@[simp] theorem setRegframe_regframe (s : State) (v : List U16) : (s.setRegframe v).regframe = v := rfl
@[simp] theorem setRegframe_regframeValid (s : State) (v : List U16) : (s.setRegframe v).regframeValid = s.regframeValid := rfl
@[simp] theorem setRegframe_tr (s : State) (v : List U16) : (s.setRegframe v).tr = s.tr := rfl
@[simp] theorem setRegframe_dirState (s : State) (v : List U16) : (s.setRegframe v).dirState = s.dirState := rfl
@[simp] theorem setRegframe_uartTxd (s : State) (v : List U16) : (s.setRegframe v).uartTxd = s.uartTxd := rfl
@[simp] theorem setRegframe_utx (s : State) (v : List U16) : (s.setRegframe v).utx = s.utx := rfl
@[simp] theorem setRegframe_urx (s : State) (v : List U16) : (s.setRegframe v).urx = s.urx := rfl
@[simp] theorem setRegframe_mst (s : State) (v : List U16) : (s.setRegframe v).mst = s.mst := rfl
@[simp] theorem setRegframe_pollStatus (s : State) (v : List U16) : (s.setRegframe v).pollStatus = s.pollStatus := rfl
@[simp] theorem setRegframe_pollDone (s : State) (v : List U16) : (s.setRegframe v).pollDone = s.pollDone := rfl
@[simp] theorem setRegframe_now (s : State) (v : List U16) : (s.setRegframe v).now = s.now := rfl
@[simp] theorem setRegframe_snap (s : State) (v : List U16) : (s.setRegframe v).snap = s.snap := rfl
@[simp] theorem setRegframe_db (s : State) (v : List U16) : (s.setRegframe v).db = s.db := rfl
@[simp] theorem setRegframe_disp (s : State) (v : List U16) : (s.setRegframe v).disp = s.disp := rfl
@[simp] theorem setRegframe_blink (s : State) (v : List U16) : (s.setRegframe v).blink = s.blink := rfl
@[simp] theorem setRegframe_out (s : State) (v : List U16) : (s.setRegframe v).out = s.out := rfl
@[simp] theorem setRegframe_ui (s : State) (v : List U16) : (s.setRegframe v).ui = s.ui := rfl
@[simp] theorem setRegframe_res (s : State) (v : List U16) : (s.setRegframe v).res = s.res := rfl
@[simp] theorem setRegframe_env (s : State) (v : List U16) : (s.setRegframe v).env = s.env := rfl
@[simp] theorem setRegframeValid_cfg (s : State) (v : Bool) : (s.setRegframeValid v).cfg = s.cfg := rfl
@[simp] theorem setRegframeValid_crc (s : State) (v : Bool) : (s.setRegframeValid v).crc = s.crc := rfl
@[simp] theorem setRegframeValid_tx (s : State) (v : Bool) : (s.setRegframeValid v).tx = s.tx := rfl
@[simp] theorem setRegframeValid_rx (s : State) (v : Bool) : (s.setRegframeValid v).rx = s.rx := rfl
@[simp] theorem setRegframeValid_rxlen (s : State) (v : Bool) : (s.setRegframeValid v).rxlen = s.rxlen := rfl
@[simp] theorem setRegframeValid_regframe (s : State) (v : Bool) : (s.setRegframeValid v).regframe = s.regframe := rfl
@[simp] theorem setRegframeValid_regframeValid (s : State) (v : Bool) : (s.setRegframeValid v).regframeValid = v := rfl
@[simp] theorem setRegframeValid_tr (s : State) (v : Bool) : (s.setRegframeValid v).tr = s.tr := rfl
@[simp] theorem setRegframeValid_dirState (s : State) (v : Bool) : (s.setRegframeValid v).dirState = s.dirState := rfl
@[simp] theorem setRegframeValid_uartTxd (s : State) (v : Bool) : (s.setRegframeValid v).uartTxd = s.uartTxd := rfl
@[simp] theorem setRegframeValid_utx (s : State) (v : Bool) : (s.setRegframeValid v).utx = s.utx := rfl
@[simp] theorem setRegframeValid_urx (s : State) (v : Bool) : (s.setRegframeValid v).urx = s.urx := rfl
@[simp] theorem setRegframeValid_mst (s : State) (v : Bool) : (s.setRegframeValid v).mst = s.mst := rfl
@[simp] theorem setRegframeValid_pollStatus (s : State) (v : Bool) : (s.setRegframeValid v).pollStatus = s.pollStatus := rfl
@[simp] theorem setRegframeValid_pollDone (s : State) (v : Bool) : (s.setRegframeValid v).pollDone = s.pollDone := rfl
@[simp] theorem setRegframeValid_now (s : State) (v : Bool) : (s.setRegframeValid v).now = s.now := rfl
@[simp] theorem setRegframeValid_snap (s : State) (v : Bool) : (s.setRegframeValid v).snap = s.snap := rfl
@[simp] theorem setRegframeValid_db (s : State) (v : Bool) : (s.setRegframeValid v).db = s.db := rfl
@[simp] theorem setRegframeValid_disp (s : State) (v : Bool) : (s.setRegframeValid v).disp = s.disp := rfl
@[simp] theorem setRegframeValid_blink (s : State) (v : Bool) : (s.setRegframeValid v).blink = s.blink := rfl
@[simp] theorem setRegframeValid_out (s : State) (v : Bool) : (s.setRegframeValid v).out = s.out := rfl
@[simp] theorem setRegframeValid_ui (s : State) (v : Bool) : (s.setRegframeValid v).ui = s.ui := rfl
@[simp] theorem setRegframeValid_res (s : State) (v : Bool) : (s.setRegframeValid v).res = s.res := rfl
@[simp] theorem setRegframeValid_env (s : State) (v : Bool) : (s.setRegframeValid v).env = s.env := rfl
@[simp] theorem setTr_cfg (s : State) (v : Tr) : (s.setTr v).cfg = s.cfg := rfl
@[simp] theorem setTr_crc (s : State) (v : Tr) : (s.setTr v).crc = s.crc := rfl
@[simp] theorem setTr_tx (s : State) (v : Tr) : (s.setTr v).tx = s.tx := rfl
@[simp] theorem setTr_rx (s : State) (v : Tr) : (s.setTr v).rx = s.rx := rfl
@[simp] theorem setTr_rxlen (s : State) (v : Tr) : (s.setTr v).rxlen = s.rxlen := rfl
@[simp] theorem setTr_regframe (s : State) (v : Tr) : (s.setTr v).regframe = s.regframe := rfl
@[simp] theorem setTr_regframeValid (s : State) (v : Tr) : (s.setTr v).regframeValid = s.regframeValid := rfl
@[simp] theorem setTr_tr (s : State) (v : Tr) : (s.setTr v).tr = v := rfl
@[simp] theorem setTr_dirState (s : State) (v : Tr) : (s.setTr v).dirState = s.dirState := rfl
@[simp] theorem setTr_uartTxd (s : State) (v : Tr) : (s.setTr v).uartTxd = s.uartTxd := rfl
@[simp] theorem setTr_utx (s : State) (v : Tr) : (s.setTr v).utx = s.utx := rfl
@[simp] theorem setTr_urx (s : State) (v : Tr) : (s.setTr v).urx = s.urx := rfl
@[simp] theorem setTr_mst (s : State) (v : Tr) : (s.setTr v).mst = s.mst := rfl
@[simp] theorem setTr_pollStatus (s : State) (v : Tr) : (s.setTr v).pollStatus = s.pollStatus := rfl
@[simp] theorem setTr_pollDone (s : State) (v : Tr) : (s.setTr v).pollDone = s.pollDone := rfl
@[simp] theorem setTr_now (s : State) (v : Tr) : (s.setTr v).now = s.now := rfl
@[simp] theorem setTr_snap (s : State) (v : Tr) : (s.setTr v).snap = s.snap := rfl
@[simp] theorem setTr_db (s : State) (v : Tr) : (s.setTr v).db = s.db := rfl
@[simp] theorem setTr_disp (s : State) (v : Tr) : (s.setTr v).disp = s.disp := rfl
@[simp] theorem setTr_blink (s : State) (v : Tr) : (s.setTr v).blink = s.blink := rfl
@[simp] theorem setTr_out (s : State) (v : Tr) : (s.setTr v).out = s.out := rfl
@[simp] theorem setTr_ui (s : State) (v : Tr) : (s.setTr v).ui = s.ui := rfl
@[simp] theorem setTr_res (s : State) (v : Tr) : (s.setTr v).res = s.res := rfl
@[simp] theorem setTr_env (s : State) (v : Tr) : (s.setTr v).env = s.env := rfl
@[simp] theorem setDirState_cfg (s : State) (v : Bool) : (s.setDirState v).cfg = s.cfg := rfl
@[simp] theorem setDirState_crc (s : State) (v : Bool) : (s.setDirState v).crc = s.crc := rfl
@[simp] theorem setDirState_tx (s : State) (v : Bool) : (s.setDirState v).tx = s.tx := rfl
@[simp] theorem setDirState_rx (s : State) (v : Bool) : (s.setDirState v).rx = s.rx := rfl
@[simp] theorem setDirState_rxlen (s : State) (v : Bool) : (s.setDirState v).rxlen = s.rxlen := rfl
@[simp] theorem setDirState_regframe (s : State) (v : Bool) : (s.setDirState v).regframe = s.regframe := rfl
@[simp] theorem setDirState_regframeValid (s : State) (v : Bool) : (s.setDirState v).regframeValid = s.regframeValid := rfl
@[simp] theorem setDirState_tr (s : State) (v : Bool) : (s.setDirState v).tr = s.tr := rfl
@[simp] theorem setDirState_dirState (s : State) (v : Bool) : (s.setDirState v).dirState = v := rfl
@[simp] theorem setDirState_uartTxd (s : State) (v : Bool) : (s.setDirState v).uartTxd = s.uartTxd := rfl
@[simp] theorem setDirState_utx (s : State) (v : Bool) : (s.setDirState v).utx = s.utx := rfl
@[simp] theorem setDirState_urx (s : State) (v : Bool) : (s.setDirState v).urx = s.urx := rfl
@[simp] theorem setDirState_mst (s : State) (v : Bool) : (s.setDirState v).mst = s.mst := rfl
@[simp] theorem setDirState_pollStatus (s : State) (v : Bool) : (s.setDirState v).pollStatus = s.pollStatus := rfl
@[simp] theorem setDirState_pollDone (s : State) (v : Bool) : (s.setDirState v).pollDone = s.pollDone := rfl
@[simp] theorem setDirState_now (s : State) (v : Bool) : (s.setDirState v).now = s.now := rfl
@[simp] theorem setDirState_snap (s : State) (v : Bool) : (s.setDirState v).snap = s.snap := rfl
@[simp] theorem setDirState_db (s : State) (v : Bool) : (s.setDirState v).db = s.db := rfl
@[simp] theorem setDirState_disp (s : State) (v : Bool) : (s.setDirState v).disp = s.disp := rfl
@[simp] theorem setDirState_blink (s : State) (v : Bool) : (s.setDirState v).blink = s.blink := rfl
@[simp] theorem setDirState_out (s : State) (v : Bool) : (s.setDirState v).out = s.out := rfl
@[simp] theorem setDirState_ui (s : State) (v : Bool) : (s.setDirState v).ui = s.ui := rfl
@[simp] theorem setDirState_res (s : State) (v : Bool) : (s.setDirState v).res = s.res := rfl
@[simp] theorem setDirState_env (s : State) (v : Bool) : (s.setDirState v).env = s.env := rfl
@[simp] theorem setUartTxd_cfg (s : State) (v : Bool) : (s.setUartTxd v).cfg = s.cfg := rfl
@[simp] theorem setUartTxd_crc (s : State) (v : Bool) : (s.setUartTxd v).crc = s.crc := rfl
@[simp] theorem setUartTxd_tx (s : State) (v : Bool) : (s.setUartTxd v).tx = s.tx := rfl
@[simp] theorem setUartTxd_rx (s : State) (v : Bool) : (s.setUartTxd v).rx = s.rx := rfl
@[simp] theorem setUartTxd_rxlen (s : State) (v : Bool) : (s.setUartTxd v).rxlen = s.rxlen := rfl
@[simp] theorem setUartTxd_regframe (s : State) (v : Bool) : (s.setUartTxd v).regframe = s.regframe := rfl
@[simp] theorem setUartTxd_regframeValid (s : State) (v : Bool) : (s.setUartTxd v).regframeValid = s.regframeValid := rfl
@[simp] theorem setUartTxd_tr (s : State) (v : Bool) : (s.setUartTxd v).tr = s.tr := rfl
@[simp] theorem setUartTxd_dirState (s : State) (v : Bool) : (s.setUartTxd v).dirState = s.dirState := rfl
@[simp] theorem setUartTxd_uartTxd (s : State) (v : Bool) : (s.setUartTxd v).uartTxd = v := rfl
@[simp] theorem setUartTxd_utx (s : State) (v : Bool) : (s.setUartTxd v).utx = s.utx := rfl
@[simp] theorem setUartTxd_urx (s : State) (v : Bool) : (s.setUartTxd v).urx = s.urx := rfl
@[simp] theorem setUartTxd_mst (s : State) (v : Bool) : (s.setUartTxd v).mst = s.mst := rfl
@[simp] theorem setUartTxd_pollStatus (s : State) (v : Bool) : (s.setUartTxd v).pollStatus = s.pollStatus := rfl
@[simp] theorem setUartTxd_pollDone (s : State) (v : Bool) : (s.setUartTxd v).pollDone = s.pollDone := rfl
@[simp] theorem setUartTxd_now (s : State) (v : Bool) : (s.setUartTxd v).now = s.now := rfl
@[simp] theorem setUartTxd_snap (s : State) (v : Bool) : (s.setUartTxd v).snap = s.snap := rfl
@[simp] theorem setUartTxd_db (s : State) (v : Bool) : (s.setUartTxd v).db = s.db := rfl
@[simp] theorem setUartTxd_disp (s : State) (v : Bool) : (s.setUartTxd v).disp = s.disp := rfl
@[simp] theorem setUartTxd_blink (s : State) (v : Bool) : (s.setUartTxd v).blink = s.blink := rfl
@[simp] theorem setUartTxd_out (s : State) (v : Bool) : (s.setUartTxd v).out = s.out := rfl
@[simp] theorem setUartTxd_ui (s : State) (v : Bool) : (s.setUartTxd v).ui = s.ui := rfl
@[simp] theorem setUartTxd_res (s : State) (v : Bool) : (s.setUartTxd v).res = s.res := rfl
@[simp] theorem setUartTxd_env (s : State) (v : Bool) : (s.setUartTxd v).env = s.env := rfl
@[simp] theorem setUtx_cfg (s : State) (v : Utx) : (s.setUtx v).cfg = s.cfg := rfl
@[simp] theorem setUtx_crc (s : State) (v : Utx) : (s.setUtx v).crc = s.crc := rfl
@[simp] theorem setUtx_tx (s : State) (v : Utx) : (s.setUtx v).tx = s.tx := rfl
@[simp] theorem setUtx_rx (s : State) (v : Utx) : (s.setUtx v).rx = s.rx := rfl
@[simp] theorem setUtx_rxlen (s : State) (v : Utx) : (s.setUtx v).rxlen = s.rxlen := rfl
@[simp] theorem setUtx_regframe (s : State) (v : Utx) : (s.setUtx v).regframe = s.regframe := rfl
@[simp] theorem setUtx_regframeValid (s : State) (v : Utx) : (s.setUtx v).regframeValid = s.regframeValid := rfl
@[simp] theorem setUtx_tr (s : State) (v : Utx) : (s.setUtx v).tr = s.tr := rfl
@[simp] theorem setUtx_dirState (s : State) (v : Utx) : (s.setUtx v).dirState = s.dirState := rfl
@[simp] theorem setUtx_uartTxd (s : State) (v : Utx) : (s.setUtx v).uartTxd = s.uartTxd := rfl
@[simp] theorem setUtx_utx (s : State) (v : Utx) : (s.setUtx v).utx = v := rfl
@[simp] theorem setUtx_urx (s : State) (v : Utx) : (s.setUtx v).urx = s.urx := rfl
@[simp] theorem setUtx_mst (s : State) (v : Utx) : (s.setUtx v).mst = s.mst := rfl
@[simp] theorem setUtx_pollStatus (s : State) (v : Utx) : (s.setUtx v).pollStatus = s.pollStatus := rfl
@[simp] theorem setUtx_pollDone (s : State) (v : Utx) : (s.setUtx v).pollDone = s.pollDone := rfl
@[simp] theorem setUtx_now (s : State) (v : Utx) : (s.setUtx v).now = s.now := rfl
@[simp] theorem setUtx_snap (s : State) (v : Utx) : (s.setUtx v).snap = s.snap := rfl
@[simp] theorem setUtx_db (s : State) (v : Utx) : (s.setUtx v).db = s.db := rfl
@[simp] theorem setUtx_disp (s : State) (v : Utx) : (s.setUtx v).disp = s.disp := rfl
@[simp] theorem setUtx_blink (s : State) (v : Utx) : (s.setUtx v).blink = s.blink := rfl
@[simp] theorem setUtx_out (s : State) (v : Utx) : (s.setUtx v).out = s.out := rfl
@[simp] theorem setUtx_ui (s : State) (v : Utx) : (s.setUtx v).ui = s.ui := rfl
@[simp] theorem setUtx_res (s : State) (v : Utx) : (s.setUtx v).res = s.res := rfl
@[simp] theorem setUtx_env (s : State) (v : Utx) : (s.setUtx v).env = s.env := rfl
@[simp] theorem setUrx_cfg (s : State) (v : Urx) : (s.setUrx v).cfg = s.cfg := rfl
@[simp] theorem setUrx_crc (s : State) (v : Urx) : (s.setUrx v).crc = s.crc := rfl
@[simp] theorem setUrx_tx (s : State) (v : Urx) : (s.setUrx v).tx = s.tx := rfl
@[simp] theorem setUrx_rx (s : State) (v : Urx) : (s.setUrx v).rx = s.rx := rfl
@[simp] theorem setUrx_rxlen (s : State) (v : Urx) : (s.setUrx v).rxlen = s.rxlen := rfl
@[simp] theorem setUrx_regframe (s : State) (v : Urx) : (s.setUrx v).regframe = s.regframe := rfl
@[simp] theorem setUrx_regframeValid (s : State) (v : Urx) : (s.setUrx v).regframeValid = s.regframeValid := rfl
@[simp] theorem setUrx_tr (s : State) (v : Urx) : (s.setUrx v).tr = s.tr := rfl
@[simp] theorem setUrx_dirState (s : State) (v : Urx) : (s.setUrx v).dirState = s.dirState := rfl
@[simp] theorem setUrx_uartTxd (s : State) (v : Urx) : (s.setUrx v).uartTxd = s.uartTxd := rfl
@[simp] theorem setUrx_utx (s : State) (v : Urx) : (s.setUrx v).utx = s.utx := rfl
@[simp] theorem setUrx_urx (s : State) (v : Urx) : (s.setUrx v).urx = v := rfl
@[simp] theorem setUrx_mst (s : State) (v : Urx) : (s.setUrx v).mst = s.mst := rfl
@[simp] theorem setUrx_pollStatus (s : State) (v : Urx) : (s.setUrx v).pollStatus = s.pollStatus := rfl
@[simp] theorem setUrx_pollDone (s : State) (v : Urx) : (s.setUrx v).pollDone = s.pollDone := rfl
@[simp] theorem setUrx_now (s : State) (v : Urx) : (s.setUrx v).now = s.now := rfl
@[simp] theorem setUrx_snap (s : State) (v : Urx) : (s.setUrx v).snap = s.snap := rfl
@[simp] theorem setUrx_db (s : State) (v : Urx) : (s.setUrx v).db = s.db := rfl
@[simp] theorem setUrx_disp (s : State) (v : Urx) : (s.setUrx v).disp = s.disp := rfl
@[simp] theorem setUrx_blink (s : State) (v : Urx) : (s.setUrx v).blink = s.blink := rfl
@[simp] theorem setUrx_out (s : State) (v : Urx) : (s.setUrx v).out = s.out := rfl
@[simp] theorem setUrx_ui (s : State) (v : Urx) : (s.setUrx v).ui = s.ui := rfl
@[simp] theorem setUrx_res (s : State) (v : Urx) : (s.setUrx v).res = s.res := rfl
@[simp] theorem setUrx_env (s : State) (v : Urx) : (s.setUrx v).env = s.env := rfl
@[simp] theorem setMst_cfg (s : State) (v : Mst) : (s.setMst v).cfg = s.cfg := rfl
@[simp] theorem setMst_crc (s : State) (v : Mst) : (s.setMst v).crc = s.crc := rfl
@[simp] theorem setMst_tx (s : State) (v : Mst) : (s.setMst v).tx = s.tx := rfl
@[simp] theorem setMst_rx (s : State) (v : Mst) : (s.setMst v).rx = s.rx := rfl
@[simp] theorem setMst_rxlen (s : State) (v : Mst) : (s.setMst v).rxlen = s.rxlen := rfl
@[simp] theorem setMst_regframe (s : State) (v : Mst) : (s.setMst v).regframe = s.regframe := rfl
@[simp] theorem setMst_regframeValid (s : State) (v : Mst) : (s.setMst v).regframeValid = s.regframeValid := rfl
@[simp] theorem setMst_tr (s : State) (v : Mst) : (s.setMst v).tr = s.tr := rfl
@[simp] theorem setMst_dirState (s : State) (v : Mst) : (s.setMst v).dirState = s.dirState := rfl
@[simp] theorem setMst_uartTxd (s : State) (v : Mst) : (s.setMst v).uartTxd = s.uartTxd := rfl
@[simp] theorem setMst_utx (s : State) (v : Mst) : (s.setMst v).utx = s.utx := rfl
@[simp] theorem setMst_urx (s : State) (v : Mst) : (s.setMst v).urx = s.urx := rfl
@[simp] theorem setMst_mst (s : State) (v : Mst) : (s.setMst v).mst = v := rfl
@[simp] theorem setMst_pollStatus (s : State) (v : Mst) : (s.setMst v).pollStatus = s.pollStatus := rfl
@[simp] theorem setMst_pollDone (s : State) (v : Mst) : (s.setMst v).pollDone = s.pollDone := rfl
@[simp] theorem setMst_now (s : State) (v : Mst) : (s.setMst v).now = s.now := rfl
@[simp] theorem setMst_snap (s : State) (v : Mst) : (s.setMst v).snap = s.snap := rfl
@[simp] theorem setMst_db (s : State) (v : Mst) : (s.setMst v).db = s.db := rfl
@[simp] theorem setMst_disp (s : State) (v : Mst) : (s.setMst v).disp = s.disp := rfl
@[simp] theorem setMst_blink (s : State) (v : Mst) : (s.setMst v).blink = s.blink := rfl
@[simp] theorem setMst_out (s : State) (v : Mst) : (s.setMst v).out = s.out := rfl
@[simp] theorem setMst_ui (s : State) (v : Mst) : (s.setMst v).ui = s.ui := rfl
@[simp] theorem setMst_res (s : State) (v : Mst) : (s.setMst v).res = s.res := rfl
@[simp] theorem setMst_env (s : State) (v : Mst) : (s.setMst v).env = s.env := rfl
@[simp] theorem setPollStatus_cfg (s : State) (v : BitVec 2) : (s.setPollStatus v).cfg = s.cfg := rfl
@[simp] theorem setPollStatus_crc (s : State) (v : BitVec 2) : (s.setPollStatus v).crc = s.crc := rfl
@[simp] theorem setPollStatus_tx (s : State) (v : BitVec 2) : (s.setPollStatus v).tx = s.tx := rfl
@[simp] theorem setPollStatus_rx (s : State) (v : BitVec 2) : (s.setPollStatus v).rx = s.rx := rfl
@[simp] theorem setPollStatus_rxlen (s : State) (v : BitVec 2) : (s.setPollStatus v).rxlen = s.rxlen := rfl
@[simp] theorem setPollStatus_regframe (s : State) (v : BitVec 2) : (s.setPollStatus v).regframe = s.regframe := rfl
@[simp] theorem setPollStatus_regframeValid (s : State) (v : BitVec 2) : (s.setPollStatus v).regframeValid = s.regframeValid := rfl
@[simp] theorem setPollStatus_tr (s : State) (v : BitVec 2) : (s.setPollStatus v).tr = s.tr := rfl
@[simp] theorem setPollStatus_dirState (s : State) (v : BitVec 2) : (s.setPollStatus v).dirState = s.dirState := rfl
@[simp] theorem setPollStatus_uartTxd (s : State) (v : BitVec 2) : (s.setPollStatus v).uartTxd = s.uartTxd := rfl
@[simp] theorem setPollStatus_utx (s : State) (v : BitVec 2) : (s.setPollStatus v).utx = s.utx := rfl
@[simp] theorem setPollStatus_urx (s : State) (v : BitVec 2) : (s.setPollStatus v).urx = s.urx := rfl
@[simp] theorem setPollStatus_mst (s : State) (v : BitVec 2) : (s.setPollStatus v).mst = s.mst := rfl
@[simp] theorem setPollStatus_pollStatus (s : State) (v : BitVec 2) : (s.setPollStatus v).pollStatus = v := rfl
@[simp] theorem setPollStatus_pollDone (s : State) (v : BitVec 2) : (s.setPollStatus v).pollDone = s.pollDone := rfl
@[simp] theorem setPollStatus_now (s : State) (v : BitVec 2) : (s.setPollStatus v).now = s.now := rfl
@[simp] theorem setPollStatus_snap (s : State) (v : BitVec 2) : (s.setPollStatus v).snap = s.snap := rfl
@[simp] theorem setPollStatus_db (s : State) (v : BitVec 2) : (s.setPollStatus v).db = s.db := rfl
@[simp] theorem setPollStatus_disp (s : State) (v : BitVec 2) : (s.setPollStatus v).disp = s.disp := rfl
@[simp] theorem setPollStatus_blink (s : State) (v : BitVec 2) : (s.setPollStatus v).blink = s.blink := rfl
@[simp] theorem setPollStatus_out (s : State) (v : BitVec 2) : (s.setPollStatus v).out = s.out := rfl
@[simp] theorem setPollStatus_ui (s : State) (v : BitVec 2) : (s.setPollStatus v).ui = s.ui := rfl
@[simp] theorem setPollStatus_res (s : State) (v : BitVec 2) : (s.setPollStatus v).res = s.res := rfl
@[simp] theorem setPollStatus_env (s : State) (v : BitVec 2) : (s.setPollStatus v).env = s.env := rfl
@[simp] theorem setPollDone_cfg (s : State) (v : Bool) : (s.setPollDone v).cfg = s.cfg := rfl
@[simp] theorem setPollDone_crc (s : State) (v : Bool) : (s.setPollDone v).crc = s.crc := rfl
@[simp] theorem setPollDone_tx (s : State) (v : Bool) : (s.setPollDone v).tx = s.tx := rfl
@[simp] theorem setPollDone_rx (s : State) (v : Bool) : (s.setPollDone v).rx = s.rx := rfl
@[simp] theorem setPollDone_rxlen (s : State) (v : Bool) : (s.setPollDone v).rxlen = s.rxlen := rfl
@[simp] theorem setPollDone_regframe (s : State) (v : Bool) : (s.setPollDone v).regframe = s.regframe := rfl
@[simp] theorem setPollDone_regframeValid (s : State) (v : Bool) : (s.setPollDone v).regframeValid = s.regframeValid := rfl
@[simp] theorem setPollDone_tr (s : State) (v : Bool) : (s.setPollDone v).tr = s.tr := rfl
@[simp] theorem setPollDone_dirState (s : State) (v : Bool) : (s.setPollDone v).dirState = s.dirState := rfl
@[simp] theorem setPollDone_uartTxd (s : State) (v : Bool) : (s.setPollDone v).uartTxd = s.uartTxd := rfl
@[simp] theorem setPollDone_utx (s : State) (v : Bool) : (s.setPollDone v).utx = s.utx := rfl
@[simp] theorem setPollDone_urx (s : State) (v : Bool) : (s.setPollDone v).urx = s.urx := rfl
@[simp] theorem setPollDone_mst (s : State) (v : Bool) : (s.setPollDone v).mst = s.mst := rfl
@[simp] theorem setPollDone_pollStatus (s : State) (v : Bool) : (s.setPollDone v).pollStatus = s.pollStatus := rfl
@[simp] theorem setPollDone_pollDone (s : State) (v : Bool) : (s.setPollDone v).pollDone = v := rfl
@[simp] theorem setPollDone_now (s : State) (v : Bool) : (s.setPollDone v).now = s.now := rfl
@[simp] theorem setPollDone_snap (s : State) (v : Bool) : (s.setPollDone v).snap = s.snap := rfl
@[simp] theorem setPollDone_db (s : State) (v : Bool) : (s.setPollDone v).db = s.db := rfl
@[simp] theorem setPollDone_disp (s : State) (v : Bool) : (s.setPollDone v).disp = s.disp := rfl
@[simp] theorem setPollDone_blink (s : State) (v : Bool) : (s.setPollDone v).blink = s.blink := rfl
@[simp] theorem setPollDone_out (s : State) (v : Bool) : (s.setPollDone v).out = s.out := rfl
@[simp] theorem setPollDone_ui (s : State) (v : Bool) : (s.setPollDone v).ui = s.ui := rfl
@[simp] theorem setPollDone_res (s : State) (v : Bool) : (s.setPollDone v).res = s.res := rfl
@[simp] theorem setPollDone_env (s : State) (v : Bool) : (s.setPollDone v).env = s.env := rfl
@[simp] theorem setNow_cfg (s : State) (v : BitVec 64) : (s.setNow v).cfg = s.cfg := rfl
@[simp] theorem setNow_crc (s : State) (v : BitVec 64) : (s.setNow v).crc = s.crc := rfl
@[simp] theorem setNow_tx (s : State) (v : BitVec 64) : (s.setNow v).tx = s.tx := rfl
@[simp] theorem setNow_rx (s : State) (v : BitVec 64) : (s.setNow v).rx = s.rx := rfl
@[simp] theorem setNow_rxlen (s : State) (v : BitVec 64) : (s.setNow v).rxlen = s.rxlen := rfl
@[simp] theorem setNow_regframe (s : State) (v : BitVec 64) : (s.setNow v).regframe = s.regframe := rfl
@[simp] theorem setNow_regframeValid (s : State) (v : BitVec 64) : (s.setNow v).regframeValid = s.regframeValid := rfl
@[simp] theorem setNow_tr (s : State) (v : BitVec 64) : (s.setNow v).tr = s.tr := rfl
@[simp] theorem setNow_dirState (s : State) (v : BitVec 64) : (s.setNow v).dirState = s.dirState := rfl
@[simp] theorem setNow_uartTxd (s : State) (v : BitVec 64) : (s.setNow v).uartTxd = s.uartTxd := rfl
@[simp] theorem setNow_utx (s : State) (v : BitVec 64) : (s.setNow v).utx = s.utx := rfl
@[simp] theorem setNow_urx (s : State) (v : BitVec 64) : (s.setNow v).urx = s.urx := rfl
@[simp] theorem setNow_mst (s : State) (v : BitVec 64) : (s.setNow v).mst = s.mst := rfl
@[simp] theorem setNow_pollStatus (s : State) (v : BitVec 64) : (s.setNow v).pollStatus = s.pollStatus := rfl
@[simp] theorem setNow_pollDone (s : State) (v : BitVec 64) : (s.setNow v).pollDone = s.pollDone := rfl
@[simp] theorem setNow_now (s : State) (v : BitVec 64) : (s.setNow v).now = v := rfl
@[simp] theorem setNow_snap (s : State) (v : BitVec 64) : (s.setNow v).snap = s.snap := rfl
@[simp] theorem setNow_db (s : State) (v : BitVec 64) : (s.setNow v).db = s.db := rfl
@[simp] theorem setNow_disp (s : State) (v : BitVec 64) : (s.setNow v).disp = s.disp := rfl
@[simp] theorem setNow_blink (s : State) (v : BitVec 64) : (s.setNow v).blink = s.blink := rfl
@[simp] theorem setNow_out (s : State) (v : BitVec 64) : (s.setNow v).out = s.out := rfl
@[simp] theorem setNow_ui (s : State) (v : BitVec 64) : (s.setNow v).ui = s.ui := rfl
@[simp] theorem setNow_res (s : State) (v : BitVec 64) : (s.setNow v).res = s.res := rfl
@[simp] theorem setNow_env (s : State) (v : BitVec 64) : (s.setNow v).env = s.env := rfl
@[simp] theorem setSnap_cfg (s : State) (v : Snap) : (s.setSnap v).cfg = s.cfg := rfl
@[simp] theorem setSnap_crc (s : State) (v : Snap) : (s.setSnap v).crc = s.crc := rfl
@[simp] theorem setSnap_tx (s : State) (v : Snap) : (s.setSnap v).tx = s.tx := rfl
@[simp] theorem setSnap_rx (s : State) (v : Snap) : (s.setSnap v).rx = s.rx := rfl
@[simp] theorem setSnap_rxlen (s : State) (v : Snap) : (s.setSnap v).rxlen = s.rxlen := rfl
@[simp] theorem setSnap_regframe (s : State) (v : Snap) : (s.setSnap v).regframe = s.regframe := rfl
@[simp] theorem setSnap_regframeValid (s : State) (v : Snap) : (s.setSnap v).regframeValid = s.regframeValid := rfl
@[simp] theorem setSnap_tr (s : State) (v : Snap) : (s.setSnap v).tr = s.tr := rfl
@[simp] theorem setSnap_dirState (s : State) (v : Snap) : (s.setSnap v).dirState = s.dirState := rfl
@[simp] theorem setSnap_uartTxd (s : State) (v : Snap) : (s.setSnap v).uartTxd = s.uartTxd := rfl
@[simp] theorem setSnap_utx (s : State) (v : Snap) : (s.setSnap v).utx = s.utx := rfl
@[simp] theorem setSnap_urx (s : State) (v : Snap) : (s.setSnap v).urx = s.urx := rfl
@[simp] theorem setSnap_mst (s : State) (v : Snap) : (s.setSnap v).mst = s.mst := rfl
@[simp] theorem setSnap_pollStatus (s : State) (v : Snap) : (s.setSnap v).pollStatus = s.pollStatus := rfl
@[simp] theorem setSnap_pollDone (s : State) (v : Snap) : (s.setSnap v).pollDone = s.pollDone := rfl
@[simp] theorem setSnap_now (s : State) (v : Snap) : (s.setSnap v).now = s.now := rfl
@[simp] theorem setSnap_snap (s : State) (v : Snap) : (s.setSnap v).snap = v := rfl
@[simp] theorem setSnap_db (s : State) (v : Snap) : (s.setSnap v).db = s.db := rfl
@[simp] theorem setSnap_disp (s : State) (v : Snap) : (s.setSnap v).disp = s.disp := rfl
@[simp] theorem setSnap_blink (s : State) (v : Snap) : (s.setSnap v).blink = s.blink := rfl
@[simp] theorem setSnap_out (s : State) (v : Snap) : (s.setSnap v).out = s.out := rfl
@[simp] theorem setSnap_ui (s : State) (v : Snap) : (s.setSnap v).ui = s.ui := rfl
@[simp] theorem setSnap_res (s : State) (v : Snap) : (s.setSnap v).res = s.res := rfl
@[simp] theorem setSnap_env (s : State) (v : Snap) : (s.setSnap v).env = s.env := rfl
@[simp] theorem setDb_cfg (s : State) (v : List (Nat × PinState)) : (s.setDb v).cfg = s.cfg := rfl
@[simp] theorem setDb_crc (s : State) (v : List (Nat × PinState)) : (s.setDb v).crc = s.crc := rfl
@[simp] theorem setDb_tx (s : State) (v : List (Nat × PinState)) : (s.setDb v).tx = s.tx := rfl
@[simp] theorem setDb_rx (s : State) (v : List (Nat × PinState)) : (s.setDb v).rx = s.rx := rfl
@[simp] theorem setDb_rxlen (s : State) (v : List (Nat × PinState)) : (s.setDb v).rxlen = s.rxlen := rfl
@[simp] theorem setDb_regframe (s : State) (v : List (Nat × PinState)) : (s.setDb v).regframe = s.regframe := rfl
@[simp] theorem setDb_regframeValid (s : State) (v : List (Nat × PinState)) : (s.setDb v).regframeValid = s.regframeValid := rfl
@[simp] theorem setDb_tr (s : State) (v : List (Nat × PinState)) : (s.setDb v).tr = s.tr := rfl
@[simp] theorem setDb_dirState (s : State) (v : List (Nat × PinState)) : (s.setDb v).dirState = s.dirState := rfl
@[simp] theorem setDb_uartTxd (s : State) (v : List (Nat × PinState)) : (s.setDb v).uartTxd = s.uartTxd := rfl
@[simp] theorem setDb_utx (s : State) (v : List (Nat × PinState)) : (s.setDb v).utx = s.utx := rfl
@[simp] theorem setDb_urx (s : State) (v : List (Nat × PinState)) : (s.setDb v).urx = s.urx := rfl
@[simp] theorem setDb_mst (s : State) (v : List (Nat × PinState)) : (s.setDb v).mst = s.mst := rfl
@[simp] theorem setDb_pollStatus (s : State) (v : List (Nat × PinState)) : (s.setDb v).pollStatus = s.pollStatus := rfl
@[simp] theorem setDb_pollDone (s : State) (v : List (Nat × PinState)) : (s.setDb v).pollDone = s.pollDone := rfl
@[simp] theorem setDb_now (s : State) (v : List (Nat × PinState)) : (s.setDb v).now = s.now := rfl
@[simp] theorem setDb_snap (s : State) (v : List (Nat × PinState)) : (s.setDb v).snap = s.snap := rfl
@[simp] theorem setDb_db (s : State) (v : List (Nat × PinState)) : (s.setDb v).db = v := rfl
@[simp] theorem setDb_disp (s : State) (v : List (Nat × PinState)) : (s.setDb v).disp = s.disp := rfl
@[simp] theorem setDb_blink (s : State) (v : List (Nat × PinState)) : (s.setDb v).blink = s.blink := rfl
@[simp] theorem setDb_out (s : State) (v : List (Nat × PinState)) : (s.setDb v).out = s.out := rfl
@[simp] theorem setDb_ui (s : State) (v : List (Nat × PinState)) : (s.setDb v).ui = s.ui := rfl
@[simp] theorem setDb_res (s : State) (v : List (Nat × PinState)) : (s.setDb v).res = s.res := rfl
@[simp] theorem setDb_env (s : State) (v : List (Nat × PinState)) : (s.setDb v).env = s.env := rfl
@[simp] theorem setDisp_cfg (s : State) (v : Disp) : (s.setDisp v).cfg = s.cfg := rfl
@[simp] theorem setDisp_crc (s : State) (v : Disp) : (s.setDisp v).crc = s.crc := rfl
@[simp] theorem setDisp_tx (s : State) (v : Disp) : (s.setDisp v).tx = s.tx := rfl
@[simp] theorem setDisp_rx (s : State) (v : Disp) : (s.setDisp v).rx = s.rx := rfl
@[simp] theorem setDisp_rxlen (s : State) (v : Disp) : (s.setDisp v).rxlen = s.rxlen := rfl
@[simp] theorem setDisp_regframe (s : State) (v : Disp) : (s.setDisp v).regframe = s.regframe := rfl
@[simp] theorem setDisp_regframeValid (s : State) (v : Disp) : (s.setDisp v).regframeValid = s.regframeValid := rfl
@[simp] theorem setDisp_tr (s : State) (v : Disp) : (s.setDisp v).tr = s.tr := rfl
@[simp] theorem setDisp_dirState (s : State) (v : Disp) : (s.setDisp v).dirState = s.dirState := rfl
@[simp] theorem setDisp_uartTxd (s : State) (v : Disp) : (s.setDisp v).uartTxd = s.uartTxd := rfl
@[simp] theorem setDisp_utx (s : State) (v : Disp) : (s.setDisp v).utx = s.utx := rfl
@[simp] theorem setDisp_urx (s : State) (v : Disp) : (s.setDisp v).urx = s.urx := rfl
@[simp] theorem setDisp_mst (s : State) (v : Disp) : (s.setDisp v).mst = s.mst := rfl
@[simp] theorem setDisp_pollStatus (s : State) (v : Disp) : (s.setDisp v).pollStatus = s.pollStatus := rfl
@[simp] theorem setDisp_pollDone (s : State) (v : Disp) : (s.setDisp v).pollDone = s.pollDone := rfl
@[simp] theorem setDisp_now (s : State) (v : Disp) : (s.setDisp v).now = s.now := rfl
@[simp] theorem setDisp_snap (s : State) (v : Disp) : (s.setDisp v).snap = s.snap := rfl
@[simp] theorem setDisp_db (s : State) (v : Disp) : (s.setDisp v).db = s.db := rfl
@[simp] theorem setDisp_disp (s : State) (v : Disp) : (s.setDisp v).disp = v := rfl
@[simp] theorem setDisp_blink (s : State) (v : Disp) : (s.setDisp v).blink = s.blink := rfl
@[simp] theorem setDisp_out (s : State) (v : Disp) : (s.setDisp v).out = s.out := rfl
@[simp] theorem setDisp_ui (s : State) (v : Disp) : (s.setDisp v).ui = s.ui := rfl
@[simp] theorem setDisp_res (s : State) (v : Disp) : (s.setDisp v).res = s.res := rfl
@[simp] theorem setDisp_env (s : State) (v : Disp) : (s.setDisp v).env = s.env := rfl
@[simp] theorem setBlink_cfg (s : State) (v : Blink) : (s.setBlink v).cfg = s.cfg := rfl
@[simp] theorem setBlink_crc (s : State) (v : Blink) : (s.setBlink v).crc = s.crc := rfl
@[simp] theorem setBlink_tx (s : State) (v : Blink) : (s.setBlink v).tx = s.tx := rfl
@[simp] theorem setBlink_rx (s : State) (v : Blink) : (s.setBlink v).rx = s.rx := rfl
@[simp] theorem setBlink_rxlen (s : State) (v : Blink) : (s.setBlink v).rxlen = s.rxlen := rfl
@[simp] theorem setBlink_regframe (s : State) (v : Blink) : (s.setBlink v).regframe = s.regframe := rfl
@[simp] theorem setBlink_regframeValid (s : State) (v : Blink) : (s.setBlink v).regframeValid = s.regframeValid := rfl
@[simp] theorem setBlink_tr (s : State) (v : Blink) : (s.setBlink v).tr = s.tr := rfl
@[simp] theorem setBlink_dirState (s : State) (v : Blink) : (s.setBlink v).dirState = s.dirState := rfl
@[simp] theorem setBlink_uartTxd (s : State) (v : Blink) : (s.setBlink v).uartTxd = s.uartTxd := rfl
@[simp] theorem setBlink_utx (s : State) (v : Blink) : (s.setBlink v).utx = s.utx := rfl
@[simp] theorem setBlink_urx (s : State) (v : Blink) : (s.setBlink v).urx = s.urx := rfl
@[simp] theorem setBlink_mst (s : State) (v : Blink) : (s.setBlink v).mst = s.mst := rfl
@[simp] theorem setBlink_pollStatus (s : State) (v : Blink) : (s.setBlink v).pollStatus = s.pollStatus := rfl
@[simp] theorem setBlink_pollDone (s : State) (v : Blink) : (s.setBlink v).pollDone = s.pollDone := rfl
@[simp] theorem setBlink_now (s : State) (v : Blink) : (s.setBlink v).now = s.now := rfl
@[simp] theorem setBlink_snap (s : State) (v : Blink) : (s.setBlink v).snap = s.snap := rfl
@[simp] theorem setBlink_db (s : State) (v : Blink) : (s.setBlink v).db = s.db := rfl
@[simp] theorem setBlink_disp (s : State) (v : Blink) : (s.setBlink v).disp = s.disp := rfl
@[simp] theorem setBlink_blink (s : State) (v : Blink) : (s.setBlink v).blink = v := rfl
@[simp] theorem setBlink_out (s : State) (v : Blink) : (s.setBlink v).out = s.out := rfl
@[simp] theorem setBlink_ui (s : State) (v : Blink) : (s.setBlink v).ui = s.ui := rfl
@[simp] theorem setBlink_res (s : State) (v : Blink) : (s.setBlink v).res = s.res := rfl
@[simp] theorem setBlink_env (s : State) (v : Blink) : (s.setBlink v).env = s.env := rfl
@[simp] theorem setOut_cfg (s : State) (v : Intent) : (s.setOut v).cfg = s.cfg := rfl
@[simp] theorem setOut_crc (s : State) (v : Intent) : (s.setOut v).crc = s.crc := rfl
@[simp] theorem setOut_tx (s : State) (v : Intent) : (s.setOut v).tx = s.tx := rfl
@[simp] theorem setOut_rx (s : State) (v : Intent) : (s.setOut v).rx = s.rx := rfl
@[simp] theorem setOut_rxlen (s : State) (v : Intent) : (s.setOut v).rxlen = s.rxlen := rfl
@[simp] theorem setOut_regframe (s : State) (v : Intent) : (s.setOut v).regframe = s.regframe := rfl
@[simp] theorem setOut_regframeValid (s : State) (v : Intent) : (s.setOut v).regframeValid = s.regframeValid := rfl
@[simp] theorem setOut_tr (s : State) (v : Intent) : (s.setOut v).tr = s.tr := rfl
@[simp] theorem setOut_dirState (s : State) (v : Intent) : (s.setOut v).dirState = s.dirState := rfl
@[simp] theorem setOut_uartTxd (s : State) (v : Intent) : (s.setOut v).uartTxd = s.uartTxd := rfl
@[simp] theorem setOut_utx (s : State) (v : Intent) : (s.setOut v).utx = s.utx := rfl
@[simp] theorem setOut_urx (s : State) (v : Intent) : (s.setOut v).urx = s.urx := rfl
@[simp] theorem setOut_mst (s : State) (v : Intent) : (s.setOut v).mst = s.mst := rfl
@[simp] theorem setOut_pollStatus (s : State) (v : Intent) : (s.setOut v).pollStatus = s.pollStatus := rfl
@[simp] theorem setOut_pollDone (s : State) (v : Intent) : (s.setOut v).pollDone = s.pollDone := rfl
@[simp] theorem setOut_now (s : State) (v : Intent) : (s.setOut v).now = s.now := rfl
@[simp] theorem setOut_snap (s : State) (v : Intent) : (s.setOut v).snap = s.snap := rfl
@[simp] theorem setOut_db (s : State) (v : Intent) : (s.setOut v).db = s.db := rfl
@[simp] theorem setOut_disp (s : State) (v : Intent) : (s.setOut v).disp = s.disp := rfl
@[simp] theorem setOut_blink (s : State) (v : Intent) : (s.setOut v).blink = s.blink := rfl
@[simp] theorem setOut_out (s : State) (v : Intent) : (s.setOut v).out = v := rfl
@[simp] theorem setOut_ui (s : State) (v : Intent) : (s.setOut v).ui = s.ui := rfl
@[simp] theorem setOut_res (s : State) (v : Intent) : (s.setOut v).res = s.res := rfl
@[simp] theorem setOut_env (s : State) (v : Intent) : (s.setOut v).env = s.env := rfl
@[simp] theorem setUi_cfg (s : State) (v : UiClock) : (s.setUi v).cfg = s.cfg := rfl
@[simp] theorem setUi_crc (s : State) (v : UiClock) : (s.setUi v).crc = s.crc := rfl
@[simp] theorem setUi_tx (s : State) (v : UiClock) : (s.setUi v).tx = s.tx := rfl
@[simp] theorem setUi_rx (s : State) (v : UiClock) : (s.setUi v).rx = s.rx := rfl
@[simp] theorem setUi_rxlen (s : State) (v : UiClock) : (s.setUi v).rxlen = s.rxlen := rfl
@[simp] theorem setUi_regframe (s : State) (v : UiClock) : (s.setUi v).regframe = s.regframe := rfl
@[simp] theorem setUi_regframeValid (s : State) (v : UiClock) : (s.setUi v).regframeValid = s.regframeValid := rfl
@[simp] theorem setUi_tr (s : State) (v : UiClock) : (s.setUi v).tr = s.tr := rfl
@[simp] theorem setUi_dirState (s : State) (v : UiClock) : (s.setUi v).dirState = s.dirState := rfl
@[simp] theorem setUi_uartTxd (s : State) (v : UiClock) : (s.setUi v).uartTxd = s.uartTxd := rfl
@[simp] theorem setUi_utx (s : State) (v : UiClock) : (s.setUi v).utx = s.utx := rfl
@[simp] theorem setUi_urx (s : State) (v : UiClock) : (s.setUi v).urx = s.urx := rfl
@[simp] theorem setUi_mst (s : State) (v : UiClock) : (s.setUi v).mst = s.mst := rfl
@[simp] theorem setUi_pollStatus (s : State) (v : UiClock) : (s.setUi v).pollStatus = s.pollStatus := rfl
@[simp] theorem setUi_pollDone (s : State) (v : UiClock) : (s.setUi v).pollDone = s.pollDone := rfl
@[simp] theorem setUi_now (s : State) (v : UiClock) : (s.setUi v).now = s.now := rfl
@[simp] theorem setUi_snap (s : State) (v : UiClock) : (s.setUi v).snap = s.snap := rfl
@[simp] theorem setUi_db (s : State) (v : UiClock) : (s.setUi v).db = s.db := rfl
@[simp] theorem setUi_disp (s : State) (v : UiClock) : (s.setUi v).disp = s.disp := rfl
@[simp] theorem setUi_blink (s : State) (v : UiClock) : (s.setUi v).blink = s.blink := rfl
@[simp] theorem setUi_out (s : State) (v : UiClock) : (s.setUi v).out = s.out := rfl
@[simp] theorem setUi_ui (s : State) (v : UiClock) : (s.setUi v).ui = v := rfl
@[simp] theorem setUi_res (s : State) (v : UiClock) : (s.setUi v).res = s.res := rfl
@[simp] theorem setUi_env (s : State) (v : UiClock) : (s.setUi v).env = s.env := rfl
@[simp] theorem setRes_cfg (s : State) (v : OpResult) : (s.setRes v).cfg = s.cfg := rfl
@[simp] theorem setRes_crc (s : State) (v : OpResult) : (s.setRes v).crc = s.crc := rfl
@[simp] theorem setRes_tx (s : State) (v : OpResult) : (s.setRes v).tx = s.tx := rfl
@[simp] theorem setRes_rx (s : State) (v : OpResult) : (s.setRes v).rx = s.rx := rfl
@[simp] theorem setRes_rxlen (s : State) (v : OpResult) : (s.setRes v).rxlen = s.rxlen := rfl
@[simp] theorem setRes_regframe (s : State) (v : OpResult) : (s.setRes v).regframe = s.regframe := rfl
@[simp] theorem setRes_regframeValid (s : State) (v : OpResult) : (s.setRes v).regframeValid = s.regframeValid := rfl
@[simp] theorem setRes_tr (s : State) (v : OpResult) : (s.setRes v).tr = s.tr := rfl
@[simp] theorem setRes_dirState (s : State) (v : OpResult) : (s.setRes v).dirState = s.dirState := rfl
@[simp] theorem setRes_uartTxd (s : State) (v : OpResult) : (s.setRes v).uartTxd = s.uartTxd := rfl
@[simp] theorem setRes_utx (s : State) (v : OpResult) : (s.setRes v).utx = s.utx := rfl
@[simp] theorem setRes_urx (s : State) (v : OpResult) : (s.setRes v).urx = s.urx := rfl
@[simp] theorem setRes_mst (s : State) (v : OpResult) : (s.setRes v).mst = s.mst := rfl
@[simp] theorem setRes_pollStatus (s : State) (v : OpResult) : (s.setRes v).pollStatus = s.pollStatus := rfl
@[simp] theorem setRes_pollDone (s : State) (v : OpResult) : (s.setRes v).pollDone = s.pollDone := rfl
@[simp] theorem setRes_now (s : State) (v : OpResult) : (s.setRes v).now = s.now := rfl
@[simp] theorem setRes_snap (s : State) (v : OpResult) : (s.setRes v).snap = s.snap := rfl
@[simp] theorem setRes_db (s : State) (v : OpResult) : (s.setRes v).db = s.db := rfl
@[simp] theorem setRes_disp (s : State) (v : OpResult) : (s.setRes v).disp = s.disp := rfl
@[simp] theorem setRes_blink (s : State) (v : OpResult) : (s.setRes v).blink = s.blink := rfl
@[simp] theorem setRes_out (s : State) (v : OpResult) : (s.setRes v).out = s.out := rfl
@[simp] theorem setRes_ui (s : State) (v : OpResult) : (s.setRes v).ui = s.ui := rfl
@[simp] theorem setRes_res (s : State) (v : OpResult) : (s.setRes v).res = v := rfl
@[simp] theorem setRes_env (s : State) (v : OpResult) : (s.setRes v).env = s.env := rfl
@[simp] theorem setEnv_cfg (s : State) (v : Env) : (s.setEnv v).cfg = s.cfg := rfl
@[simp] theorem setEnv_crc (s : State) (v : Env) : (s.setEnv v).crc = s.crc := rfl
@[simp] theorem setEnv_tx (s : State) (v : Env) : (s.setEnv v).tx = s.tx := rfl
@[simp] theorem setEnv_rx (s : State) (v : Env) : (s.setEnv v).rx = s.rx := rfl
@[simp] theorem setEnv_rxlen (s : State) (v : Env) : (s.setEnv v).rxlen = s.rxlen := rfl
@[simp] theorem setEnv_regframe (s : State) (v : Env) : (s.setEnv v).regframe = s.regframe := rfl
@[simp] theorem setEnv_regframeValid (s : State) (v : Env) : (s.setEnv v).regframeValid = s.regframeValid := rfl
@[simp] theorem setEnv_tr (s : State) (v : Env) : (s.setEnv v).tr = s.tr := rfl
@[simp] theorem setEnv_dirState (s : State) (v : Env) : (s.setEnv v).dirState = s.dirState := rfl
@[simp] theorem setEnv_uartTxd (s : State) (v : Env) : (s.setEnv v).uartTxd = s.uartTxd := rfl
@[simp] theorem setEnv_utx (s : State) (v : Env) : (s.setEnv v).utx = s.utx := rfl
@[simp] theorem setEnv_urx (s : State) (v : Env) : (s.setEnv v).urx = s.urx := rfl
@[simp] theorem setEnv_mst (s : State) (v : Env) : (s.setEnv v).mst = s.mst := rfl
@[simp] theorem setEnv_pollStatus (s : State) (v : Env) : (s.setEnv v).pollStatus = s.pollStatus := rfl
@[simp] theorem setEnv_pollDone (s : State) (v : Env) : (s.setEnv v).pollDone = s.pollDone := rfl
@[simp] theorem setEnv_now (s : State) (v : Env) : (s.setEnv v).now = s.now := rfl
@[simp] theorem setEnv_snap (s : State) (v : Env) : (s.setEnv v).snap = s.snap := rfl
@[simp] theorem setEnv_db (s : State) (v : Env) : (s.setEnv v).db = s.db := rfl
@[simp] theorem setEnv_disp (s : State) (v : Env) : (s.setEnv v).disp = s.disp := rfl
@[simp] theorem setEnv_blink (s : State) (v : Env) : (s.setEnv v).blink = s.blink := rfl
@[simp] theorem setEnv_out (s : State) (v : Env) : (s.setEnv v).out = s.out := rfl
@[simp] theorem setEnv_ui (s : State) (v : Env) : (s.setEnv v).ui = s.ui := rfl
@[simp] theorem setEnv_res (s : State) (v : Env) : (s.setEnv v).res = s.res := rfl
@[simp] theorem setEnv_env (s : State) (v : Env) : (s.setEnv v).env = v := rfl

end Sys2Proof.Laws
end

