-- ==== Sys2Proof/Laws/Ops.lean ====
section
/-! SUPPORT. What each named operation over time, phases and errors leaves alone (one lemma per field) and what it does to
the fields it changes. -/

namespace Sys2Proof.Laws

open Sys2Proof.Machine

/-! ### Fields an operation leaves alone -/

@[simp] theorem passTicks_cfg (n : Nat) (s : State) : (passTicks n s).cfg = s.cfg := by unfold passTicks; split <;> rfl
@[simp] theorem passTicks_crc (n : Nat) (s : State) : (passTicks n s).crc = s.crc := by unfold passTicks; split <;> rfl
@[simp] theorem passTicks_tx (n : Nat) (s : State) : (passTicks n s).tx = s.tx := by unfold passTicks; split <;> rfl
@[simp] theorem passTicks_rx (n : Nat) (s : State) : (passTicks n s).rx = s.rx := by unfold passTicks; split <;> rfl
@[simp] theorem passTicks_rxlen (n : Nat) (s : State) : (passTicks n s).rxlen = s.rxlen := by unfold passTicks; split <;> rfl
@[simp] theorem passTicks_regframe (n : Nat) (s : State) : (passTicks n s).regframe = s.regframe := by unfold passTicks; split <;> rfl
@[simp] theorem passTicks_regframeValid (n : Nat) (s : State) : (passTicks n s).regframeValid = s.regframeValid := by unfold passTicks; split <;> rfl
@[simp] theorem passTicks_dirState (n : Nat) (s : State) : (passTicks n s).dirState = s.dirState := by unfold passTicks; split <;> rfl
@[simp] theorem passTicks_uartTxd (n : Nat) (s : State) : (passTicks n s).uartTxd = s.uartTxd := by unfold passTicks; split <;> rfl
@[simp] theorem passTicks_utx (n : Nat) (s : State) : (passTicks n s).utx = s.utx := by unfold passTicks; split <;> rfl
@[simp] theorem passTicks_urx (n : Nat) (s : State) : (passTicks n s).urx = s.urx := by unfold passTicks; split <;> rfl
@[simp] theorem passTicks_pollStatus (n : Nat) (s : State) : (passTicks n s).pollStatus = s.pollStatus := by unfold passTicks; split <;> rfl
@[simp] theorem passTicks_snap (n : Nat) (s : State) : (passTicks n s).snap = s.snap := by unfold passTicks; split <;> rfl
@[simp] theorem passTicks_db (n : Nat) (s : State) : (passTicks n s).db = s.db := by unfold passTicks; split <;> rfl
@[simp] theorem passTicks_disp (n : Nat) (s : State) : (passTicks n s).disp = s.disp := by unfold passTicks; split <;> rfl
@[simp] theorem passTicks_blink (n : Nat) (s : State) : (passTicks n s).blink = s.blink := by unfold passTicks; split <;> rfl
@[simp] theorem passTicks_out (n : Nat) (s : State) : (passTicks n s).out = s.out := by unfold passTicks; split <;> rfl
@[simp] theorem passTicks_ui (n : Nat) (s : State) : (passTicks n s).ui = s.ui := by unfold passTicks; split <;> rfl
@[simp] theorem passTicks_res (n : Nat) (s : State) : (passTicks n s).res = s.res := by unfold passTicks; split <;> rfl

@[simp] theorem idlePass_cfg (n : Nat) (s : State) : (idlePass n s).cfg = s.cfg := by unfold idlePass; split <;> simp
@[simp] theorem idlePass_crc (n : Nat) (s : State) : (idlePass n s).crc = s.crc := by unfold idlePass; split <;> simp
@[simp] theorem idlePass_tx (n : Nat) (s : State) : (idlePass n s).tx = s.tx := by unfold idlePass; split <;> simp
@[simp] theorem idlePass_rx (n : Nat) (s : State) : (idlePass n s).rx = s.rx := by unfold idlePass; split <;> simp
@[simp] theorem idlePass_rxlen (n : Nat) (s : State) : (idlePass n s).rxlen = s.rxlen := by unfold idlePass; split <;> simp
@[simp] theorem idlePass_regframe (n : Nat) (s : State) : (idlePass n s).regframe = s.regframe := by unfold idlePass; split <;> simp
@[simp] theorem idlePass_regframeValid (n : Nat) (s : State) : (idlePass n s).regframeValid = s.regframeValid := by unfold idlePass; split <;> simp
@[simp] theorem idlePass_dirState (n : Nat) (s : State) : (idlePass n s).dirState = s.dirState := by unfold idlePass; split <;> simp
@[simp] theorem idlePass_uartTxd (n : Nat) (s : State) : (idlePass n s).uartTxd = s.uartTxd := by unfold idlePass; split <;> simp
@[simp] theorem idlePass_utx (n : Nat) (s : State) : (idlePass n s).utx = s.utx := by unfold idlePass; split <;> simp
@[simp] theorem idlePass_urx (n : Nat) (s : State) : (idlePass n s).urx = s.urx := by unfold idlePass; split <;> simp
@[simp] theorem idlePass_pollStatus (n : Nat) (s : State) : (idlePass n s).pollStatus = s.pollStatus := by unfold idlePass; split <;> simp
@[simp] theorem idlePass_snap (n : Nat) (s : State) : (idlePass n s).snap = s.snap := by unfold idlePass; split <;> simp
@[simp] theorem idlePass_db (n : Nat) (s : State) : (idlePass n s).db = s.db := by unfold idlePass; split <;> simp
@[simp] theorem idlePass_disp (n : Nat) (s : State) : (idlePass n s).disp = s.disp := by unfold idlePass; split <;> simp
@[simp] theorem idlePass_blink (n : Nat) (s : State) : (idlePass n s).blink = s.blink := by unfold idlePass; split <;> simp
@[simp] theorem idlePass_out (n : Nat) (s : State) : (idlePass n s).out = s.out := by unfold idlePass; split <;> simp
@[simp] theorem idlePass_ui (n : Nat) (s : State) : (idlePass n s).ui = s.ui := by unfold idlePass; split <;> simp
@[simp] theorem idlePass_res (n : Nat) (s : State) : (idlePass n s).res = s.res := by unfold idlePass; split <;> simp

@[simp] theorem busyPass_cfg (n : Nat) (s : State) : (busyPass n s).cfg = s.cfg := by unfold busyPass; split <;> simp
@[simp] theorem busyPass_crc (n : Nat) (s : State) : (busyPass n s).crc = s.crc := by unfold busyPass; split <;> simp
@[simp] theorem busyPass_tx (n : Nat) (s : State) : (busyPass n s).tx = s.tx := by unfold busyPass; split <;> simp
@[simp] theorem busyPass_rx (n : Nat) (s : State) : (busyPass n s).rx = s.rx := by unfold busyPass; split <;> simp
@[simp] theorem busyPass_rxlen (n : Nat) (s : State) : (busyPass n s).rxlen = s.rxlen := by unfold busyPass; split <;> simp
@[simp] theorem busyPass_regframe (n : Nat) (s : State) : (busyPass n s).regframe = s.regframe := by unfold busyPass; split <;> simp
@[simp] theorem busyPass_regframeValid (n : Nat) (s : State) : (busyPass n s).regframeValid = s.regframeValid := by unfold busyPass; split <;> simp
@[simp] theorem busyPass_dirState (n : Nat) (s : State) : (busyPass n s).dirState = s.dirState := by unfold busyPass; split <;> simp
@[simp] theorem busyPass_uartTxd (n : Nat) (s : State) : (busyPass n s).uartTxd = s.uartTxd := by unfold busyPass; split <;> simp
@[simp] theorem busyPass_utx (n : Nat) (s : State) : (busyPass n s).utx = s.utx := by unfold busyPass; split <;> simp
@[simp] theorem busyPass_urx (n : Nat) (s : State) : (busyPass n s).urx = s.urx := by unfold busyPass; split <;> simp
@[simp] theorem busyPass_pollStatus (n : Nat) (s : State) : (busyPass n s).pollStatus = s.pollStatus := by unfold busyPass; split <;> simp
@[simp] theorem busyPass_snap (n : Nat) (s : State) : (busyPass n s).snap = s.snap := by unfold busyPass; split <;> simp
@[simp] theorem busyPass_db (n : Nat) (s : State) : (busyPass n s).db = s.db := by unfold busyPass; split <;> simp
@[simp] theorem busyPass_disp (n : Nat) (s : State) : (busyPass n s).disp = s.disp := by unfold busyPass; split <;> simp
@[simp] theorem busyPass_blink (n : Nat) (s : State) : (busyPass n s).blink = s.blink := by unfold busyPass; split <;> simp
@[simp] theorem busyPass_out (n : Nat) (s : State) : (busyPass n s).out = s.out := by unfold busyPass; split <;> simp
@[simp] theorem busyPass_ui (n : Nat) (s : State) : (busyPass n s).ui = s.ui := by unfold busyPass; split <;> simp
@[simp] theorem busyPass_res (n : Nat) (s : State) : (busyPass n s).res = s.res := by unfold busyPass; split <;> simp

@[simp] theorem enterPhase_cfg (s : State) (p : TrPhase) : (s.enterPhase p).cfg = s.cfg := rfl
@[simp] theorem enterPhase_crc (s : State) (p : TrPhase) : (s.enterPhase p).crc = s.crc := rfl
@[simp] theorem enterPhase_tx (s : State) (p : TrPhase) : (s.enterPhase p).tx = s.tx := rfl
@[simp] theorem enterPhase_rx (s : State) (p : TrPhase) : (s.enterPhase p).rx = s.rx := rfl
@[simp] theorem enterPhase_rxlen (s : State) (p : TrPhase) : (s.enterPhase p).rxlen = s.rxlen := rfl
@[simp] theorem enterPhase_regframe (s : State) (p : TrPhase) : (s.enterPhase p).regframe = s.regframe := rfl
@[simp] theorem enterPhase_regframeValid (s : State) (p : TrPhase) : (s.enterPhase p).regframeValid = s.regframeValid := rfl
@[simp] theorem enterPhase_dirState (s : State) (p : TrPhase) : (s.enterPhase p).dirState = s.dirState := rfl
@[simp] theorem enterPhase_uartTxd (s : State) (p : TrPhase) : (s.enterPhase p).uartTxd = s.uartTxd := rfl
@[simp] theorem enterPhase_utx (s : State) (p : TrPhase) : (s.enterPhase p).utx = s.utx := rfl
@[simp] theorem enterPhase_mst (s : State) (p : TrPhase) : (s.enterPhase p).mst = s.mst := rfl
@[simp] theorem enterPhase_pollStatus (s : State) (p : TrPhase) : (s.enterPhase p).pollStatus = s.pollStatus := rfl
@[simp] theorem enterPhase_pollDone (s : State) (p : TrPhase) : (s.enterPhase p).pollDone = s.pollDone := rfl
@[simp] theorem enterPhase_now (s : State) (p : TrPhase) : (s.enterPhase p).now = s.now := rfl
@[simp] theorem enterPhase_snap (s : State) (p : TrPhase) : (s.enterPhase p).snap = s.snap := rfl
@[simp] theorem enterPhase_db (s : State) (p : TrPhase) : (s.enterPhase p).db = s.db := rfl
@[simp] theorem enterPhase_disp (s : State) (p : TrPhase) : (s.enterPhase p).disp = s.disp := rfl
@[simp] theorem enterPhase_blink (s : State) (p : TrPhase) : (s.enterPhase p).blink = s.blink := rfl
@[simp] theorem enterPhase_out (s : State) (p : TrPhase) : (s.enterPhase p).out = s.out := rfl
@[simp] theorem enterPhase_ui (s : State) (p : TrPhase) : (s.enterPhase p).ui = s.ui := rfl
@[simp] theorem enterPhase_res (s : State) (p : TrPhase) : (s.enterPhase p).res = s.res := rfl
@[simp] theorem enterPhase_env (s : State) (p : TrPhase) : (s.enterPhase p).env = s.env := rfl

@[simp] theorem setMstPhase_cfg (s : State) (p : MstPhase) : (s.setMstPhase p).cfg = s.cfg := rfl
@[simp] theorem setMstPhase_crc (s : State) (p : MstPhase) : (s.setMstPhase p).crc = s.crc := rfl
@[simp] theorem setMstPhase_tx (s : State) (p : MstPhase) : (s.setMstPhase p).tx = s.tx := rfl
@[simp] theorem setMstPhase_rx (s : State) (p : MstPhase) : (s.setMstPhase p).rx = s.rx := rfl
@[simp] theorem setMstPhase_rxlen (s : State) (p : MstPhase) : (s.setMstPhase p).rxlen = s.rxlen := rfl
@[simp] theorem setMstPhase_regframe (s : State) (p : MstPhase) : (s.setMstPhase p).regframe = s.regframe := rfl
@[simp] theorem setMstPhase_regframeValid (s : State) (p : MstPhase) : (s.setMstPhase p).regframeValid = s.regframeValid := rfl
@[simp] theorem setMstPhase_tr (s : State) (p : MstPhase) : (s.setMstPhase p).tr = s.tr := rfl
@[simp] theorem setMstPhase_dirState (s : State) (p : MstPhase) : (s.setMstPhase p).dirState = s.dirState := rfl
@[simp] theorem setMstPhase_uartTxd (s : State) (p : MstPhase) : (s.setMstPhase p).uartTxd = s.uartTxd := rfl
@[simp] theorem setMstPhase_utx (s : State) (p : MstPhase) : (s.setMstPhase p).utx = s.utx := rfl
@[simp] theorem setMstPhase_urx (s : State) (p : MstPhase) : (s.setMstPhase p).urx = s.urx := rfl
@[simp] theorem setMstPhase_pollStatus (s : State) (p : MstPhase) : (s.setMstPhase p).pollStatus = s.pollStatus := rfl
@[simp] theorem setMstPhase_pollDone (s : State) (p : MstPhase) : (s.setMstPhase p).pollDone = s.pollDone := rfl
@[simp] theorem setMstPhase_now (s : State) (p : MstPhase) : (s.setMstPhase p).now = s.now := rfl
@[simp] theorem setMstPhase_snap (s : State) (p : MstPhase) : (s.setMstPhase p).snap = s.snap := rfl
@[simp] theorem setMstPhase_db (s : State) (p : MstPhase) : (s.setMstPhase p).db = s.db := rfl
@[simp] theorem setMstPhase_disp (s : State) (p : MstPhase) : (s.setMstPhase p).disp = s.disp := rfl
@[simp] theorem setMstPhase_blink (s : State) (p : MstPhase) : (s.setMstPhase p).blink = s.blink := rfl
@[simp] theorem setMstPhase_out (s : State) (p : MstPhase) : (s.setMstPhase p).out = s.out := rfl
@[simp] theorem setMstPhase_ui (s : State) (p : MstPhase) : (s.setMstPhase p).ui = s.ui := rfl
@[simp] theorem setMstPhase_res (s : State) (p : MstPhase) : (s.setMstPhase p).res = s.res := rfl
@[simp] theorem setMstPhase_env (s : State) (p : MstPhase) : (s.setMstPhase p).env = s.env := rfl

@[simp] theorem takeError_cfg (s : State) : (takeError s).cfg = s.cfg := rfl
@[simp] theorem takeError_crc (s : State) : (takeError s).crc = s.crc := rfl
@[simp] theorem takeError_tx (s : State) : (takeError s).tx = s.tx := rfl
@[simp] theorem takeError_rx (s : State) : (takeError s).rx = s.rx := rfl
@[simp] theorem takeError_rxlen (s : State) : (takeError s).rxlen = s.rxlen := rfl
@[simp] theorem takeError_regframe (s : State) : (takeError s).regframe = s.regframe := rfl
@[simp] theorem takeError_regframeValid (s : State) : (takeError s).regframeValid = s.regframeValid := rfl
@[simp] theorem takeError_tr (s : State) : (takeError s).tr = s.tr := rfl
@[simp] theorem takeError_dirState (s : State) : (takeError s).dirState = s.dirState := rfl
@[simp] theorem takeError_uartTxd (s : State) : (takeError s).uartTxd = s.uartTxd := rfl
@[simp] theorem takeError_utx (s : State) : (takeError s).utx = s.utx := rfl
@[simp] theorem takeError_urx (s : State) : (takeError s).urx = s.urx := rfl
@[simp] theorem takeError_pollStatus (s : State) : (takeError s).pollStatus = s.pollStatus := rfl
@[simp] theorem takeError_pollDone (s : State) : (takeError s).pollDone = s.pollDone := rfl
@[simp] theorem takeError_now (s : State) : (takeError s).now = s.now := rfl
@[simp] theorem takeError_snap (s : State) : (takeError s).snap = s.snap := rfl
@[simp] theorem takeError_db (s : State) : (takeError s).db = s.db := rfl
@[simp] theorem takeError_disp (s : State) : (takeError s).disp = s.disp := rfl
@[simp] theorem takeError_blink (s : State) : (takeError s).blink = s.blink := rfl
@[simp] theorem takeError_out (s : State) : (takeError s).out = s.out := rfl
@[simp] theorem takeError_ui (s : State) : (takeError s).ui = s.ui := rfl
@[simp] theorem takeError_res (s : State) : (takeError s).res = s.res := rfl
@[simp] theorem takeError_env (s : State) : (takeError s).env = s.env := rfl

@[simp] theorem returnFromError_cfg (s : State) : (returnFromError s).cfg = s.cfg := rfl
@[simp] theorem returnFromError_crc (s : State) : (returnFromError s).crc = s.crc := rfl
@[simp] theorem returnFromError_tx (s : State) : (returnFromError s).tx = s.tx := rfl
@[simp] theorem returnFromError_rx (s : State) : (returnFromError s).rx = s.rx := rfl
@[simp] theorem returnFromError_rxlen (s : State) : (returnFromError s).rxlen = s.rxlen := rfl
@[simp] theorem returnFromError_regframe (s : State) : (returnFromError s).regframe = s.regframe := rfl
@[simp] theorem returnFromError_regframeValid (s : State) : (returnFromError s).regframeValid = s.regframeValid := rfl
@[simp] theorem returnFromError_tr (s : State) : (returnFromError s).tr = s.tr := rfl
@[simp] theorem returnFromError_dirState (s : State) : (returnFromError s).dirState = s.dirState := rfl
@[simp] theorem returnFromError_uartTxd (s : State) : (returnFromError s).uartTxd = s.uartTxd := rfl
@[simp] theorem returnFromError_utx (s : State) : (returnFromError s).utx = s.utx := rfl
@[simp] theorem returnFromError_urx (s : State) : (returnFromError s).urx = s.urx := rfl
@[simp] theorem returnFromError_pollStatus (s : State) : (returnFromError s).pollStatus = s.pollStatus := rfl
@[simp] theorem returnFromError_pollDone (s : State) : (returnFromError s).pollDone = s.pollDone := rfl
@[simp] theorem returnFromError_now (s : State) : (returnFromError s).now = s.now := rfl
@[simp] theorem returnFromError_snap (s : State) : (returnFromError s).snap = s.snap := rfl
@[simp] theorem returnFromError_db (s : State) : (returnFromError s).db = s.db := rfl
@[simp] theorem returnFromError_disp (s : State) : (returnFromError s).disp = s.disp := rfl
@[simp] theorem returnFromError_blink (s : State) : (returnFromError s).blink = s.blink := rfl
@[simp] theorem returnFromError_out (s : State) : (returnFromError s).out = s.out := rfl
@[simp] theorem returnFromError_ui (s : State) : (returnFromError s).ui = s.ui := rfl
@[simp] theorem returnFromError_res (s : State) : (returnFromError s).res = s.res := rfl
@[simp] theorem returnFromError_env (s : State) : (returnFromError s).env = s.env := rfl

@[simp] theorem endPoll_cfg (r : PollResult) (s : State) : (endPoll r s).cfg = s.cfg := rfl
@[simp] theorem endPoll_crc (r : PollResult) (s : State) : (endPoll r s).crc = s.crc := rfl
@[simp] theorem endPoll_tx (r : PollResult) (s : State) : (endPoll r s).tx = s.tx := rfl
@[simp] theorem endPoll_rx (r : PollResult) (s : State) : (endPoll r s).rx = s.rx := rfl
@[simp] theorem endPoll_rxlen (r : PollResult) (s : State) : (endPoll r s).rxlen = s.rxlen := rfl
@[simp] theorem endPoll_regframe (r : PollResult) (s : State) : (endPoll r s).regframe = s.regframe := rfl
@[simp] theorem endPoll_regframeValid (r : PollResult) (s : State) : (endPoll r s).regframeValid = s.regframeValid := rfl
@[simp] theorem endPoll_tr (r : PollResult) (s : State) : (endPoll r s).tr = s.tr := rfl
@[simp] theorem endPoll_dirState (r : PollResult) (s : State) : (endPoll r s).dirState = s.dirState := rfl
@[simp] theorem endPoll_uartTxd (r : PollResult) (s : State) : (endPoll r s).uartTxd = s.uartTxd := rfl
@[simp] theorem endPoll_utx (r : PollResult) (s : State) : (endPoll r s).utx = s.utx := rfl
@[simp] theorem endPoll_urx (r : PollResult) (s : State) : (endPoll r s).urx = s.urx := rfl
@[simp] theorem endPoll_pollStatus (r : PollResult) (s : State) : (endPoll r s).pollStatus = s.pollStatus := rfl
@[simp] theorem endPoll_pollDone (r : PollResult) (s : State) : (endPoll r s).pollDone = s.pollDone := rfl
@[simp] theorem endPoll_now (r : PollResult) (s : State) : (endPoll r s).now = s.now := rfl
@[simp] theorem endPoll_snap (r : PollResult) (s : State) : (endPoll r s).snap = s.snap := rfl
@[simp] theorem endPoll_db (r : PollResult) (s : State) : (endPoll r s).db = s.db := rfl
@[simp] theorem endPoll_disp (r : PollResult) (s : State) : (endPoll r s).disp = s.disp := rfl
@[simp] theorem endPoll_blink (r : PollResult) (s : State) : (endPoll r s).blink = s.blink := rfl
@[simp] theorem endPoll_out (r : PollResult) (s : State) : (endPoll r s).out = s.out := rfl
@[simp] theorem endPoll_ui (r : PollResult) (s : State) : (endPoll r s).ui = s.ui := rfl
@[simp] theorem endPoll_res (r : PollResult) (s : State) : (endPoll r s).res = s.res := rfl
@[simp] theorem endPoll_env (r : PollResult) (s : State) : (endPoll r s).env = s.env := rfl

@[simp] theorem reportPoll_cfg (s : State) : (reportPoll s).cfg = s.cfg := rfl
@[simp] theorem reportPoll_crc (s : State) : (reportPoll s).crc = s.crc := rfl
@[simp] theorem reportPoll_tx (s : State) : (reportPoll s).tx = s.tx := rfl
@[simp] theorem reportPoll_rx (s : State) : (reportPoll s).rx = s.rx := rfl
@[simp] theorem reportPoll_rxlen (s : State) : (reportPoll s).rxlen = s.rxlen := rfl
@[simp] theorem reportPoll_regframe (s : State) : (reportPoll s).regframe = s.regframe := rfl
@[simp] theorem reportPoll_regframeValid (s : State) : (reportPoll s).regframeValid = s.regframeValid := rfl
@[simp] theorem reportPoll_tr (s : State) : (reportPoll s).tr = s.tr := rfl
@[simp] theorem reportPoll_dirState (s : State) : (reportPoll s).dirState = s.dirState := rfl
@[simp] theorem reportPoll_uartTxd (s : State) : (reportPoll s).uartTxd = s.uartTxd := rfl
@[simp] theorem reportPoll_utx (s : State) : (reportPoll s).utx = s.utx := rfl
@[simp] theorem reportPoll_urx (s : State) : (reportPoll s).urx = s.urx := rfl
@[simp] theorem reportPoll_now (s : State) : (reportPoll s).now = s.now := rfl
@[simp] theorem reportPoll_snap (s : State) : (reportPoll s).snap = s.snap := rfl
@[simp] theorem reportPoll_db (s : State) : (reportPoll s).db = s.db := rfl
@[simp] theorem reportPoll_disp (s : State) : (reportPoll s).disp = s.disp := rfl
@[simp] theorem reportPoll_blink (s : State) : (reportPoll s).blink = s.blink := rfl
@[simp] theorem reportPoll_out (s : State) : (reportPoll s).out = s.out := rfl
@[simp] theorem reportPoll_ui (s : State) : (reportPoll s).ui = s.ui := rfl
@[simp] theorem reportPoll_res (s : State) : (reportPoll s).res = s.res := rfl
@[simp] theorem reportPoll_env (s : State) : (reportPoll s).env = s.env := rfl

/-! ### Fields an operation changes -/

@[simp] theorem passTicks_zero (s : State) : passTicks 0 s = s := rfl
@[simp] theorem idlePass_zero (s : State) : idlePass 0 s = s := rfl
@[simp] theorem busyPass_zero (s : State) : busyPass 0 s = s := rfl

@[simp] theorem passTicks_now (n : Nat) (s : State) : (passTicks n s).now = s.now + BitVec.ofNat 64 n := by
  unfold passTicks; split <;> simp_all
@[simp] theorem idlePass_now (n : Nat) (s : State) : (idlePass n s).now = s.now + BitVec.ofNat 64 n := by
  unfold idlePass; split <;> simp_all
@[simp] theorem busyPass_now (n : Nat) (s : State) : (busyPass n s).now = s.now + BitVec.ofNat 64 n := by
  unfold busyPass; split <;> simp_all

@[simp] theorem passTicks_env (n : Nat) (s : State) :
    (passTicks n s).env = { s.env with line := s.env.line.drop n, rstNext := s.env.rstNext.drop n } := by
  unfold passTicks; split <;> simp_all
@[simp] theorem idlePass_env (n : Nat) (s : State) :
    (idlePass n s).env = { s.env with line := s.env.line.drop n, rstNext := s.env.rstNext.drop n } := by
  unfold idlePass; split <;> simp_all
@[simp] theorem busyPass_env (n : Nat) (s : State) :
    (busyPass n s).env = { s.env with line := s.env.line.drop n, rstNext := s.env.rstNext.drop n } := by
  unfold busyPass; split <;> simp_all

/-- Waiting changes of the master's registers the interval counter only, and holds that at its limit. -/
theorem passTicks_mst (n : Nat) (s : State) (h : s.mst.intervalCnt ≤ s.cfg.pollInterval) :
    (passTicks n s).mst = { s.mst with intervalCnt := min s.cfg.pollInterval (s.mst.intervalCnt + n) } := by
  unfold passTicks
  split
  · subst n; simp [Nat.min_eq_right h]
  · rfl

/-- The interval counter after waiting, whatever it was. -/
theorem passTicks_mst_frame (n : Nat) (s : State) :
    (passTicks n s).mst = { s.mst with intervalCnt := (passTicks n s).mst.intervalCnt } := by
  unfold passTicks; split <;> rfl
theorem idlePass_mst_frame (n : Nat) (s : State) :
    (idlePass n s).mst = { s.mst with intervalCnt := (idlePass n s).mst.intervalCnt } := by
  unfold idlePass; split
  · rfl
  · exact passTicks_mst_frame n s
theorem busyPass_mst_frame (n : Nat) (s : State) :
    (busyPass n s).mst = { s.mst with intervalCnt := (busyPass n s).mst.intervalCnt } := by
  unfold busyPass; split
  · rfl
  · exact passTicks_mst_frame n s

@[simp] theorem enterPhase_phase (s : State) (p : TrPhase) : (s.enterPhase p).tr.phase = p := rfl
@[simp] theorem enterPhase_txidx (s : State) (p : TrPhase) : (s.enterPhase p).tr.txidx = s.tr.txidx := rfl
@[simp] theorem enterPhase_idleCnt (s : State) (p : TrPhase) : (s.enterPhase p).tr.idleCnt = s.tr.idleCnt := rfl
@[simp] theorem enterPhase_turnCnt (s : State) (p : TrPhase) : (s.enterPhase p).tr.turnCnt = 0 := rfl
@[simp] theorem enterPhase_silenceCnt (s : State) (p : TrPhase) : (s.enterPhase p).tr.silenceCnt = 0 := rfl
@[simp] theorem enterPhase_timeoutCnt (s : State) (p : TrPhase) : (s.enterPhase p).tr.timeoutCnt = 0 := rfl
@[simp] theorem enterPhase_maxLen (s : State) (p : TrPhase) : (s.enterPhase p).tr.maxLen = maxLenIn s p := rfl
@[simp] theorem enterPhase_ioErr (s : State) (p : TrPhase) : (s.enterPhase p).tr.ioErr = s.tr.ioErr := rfl
@[simp] theorem enterPhase_urx (s : State) (p : TrPhase) : (s.enterPhase p).urx = urxOff := rfl
@[simp] theorem setMstPhase_mst (s : State) (p : MstPhase) : (s.setMstPhase p).mst =
    { s.mst with phase := p, backoffCnt := 0, held := false } := rfl
@[simp] theorem takeError_mst (s : State) : (takeError s).mst =
    { s.mst with phase := .backoff, attempt := s.mst.attempt + 1, backoffCnt := 0 } := rfl
@[simp] theorem returnFromError_mst (s : State) : (returnFromError s).mst =
    { s.mst with phase := .transact, backoffCnt := 0 } := rfl
@[simp] theorem endPoll_ok_mst (f : List U16) (s : State) : (endPoll (.ok f) s).mst =
    { s.mst with phase := .convert, result := 0 } := rfl
@[simp] theorem endPoll_err_mst (e : PollError) (s : State) : (endPoll (.err e) s).mst =
    { s.mst with phase := .report, result := pollCode (.err e) } := rfl
@[simp] theorem reportPoll_mst (s : State) : (reportPoll s).mst = { s.mst with phase := .wait, backoffCnt := 0, held := false } := rfl
@[simp] theorem reportPoll_pollStatus (s : State) : (reportPoll s).pollStatus = s.mst.result := rfl
@[simp] theorem reportPoll_pollDone (s : State) : (reportPoll s).pollDone = true := rfl

/-! ### The maximum length and the end of a transaction (R64, R191) -/

/-- Within a transaction `tr.max_len` stays. -/
@[simp] theorem maxLenIn_kept {s : State} (h : s.tr.phase.resting = false) (p : TrPhase) : maxLenIn s p = s.tr.maxLen := by
  simp [maxLenIn, h]

/-- A transaction that begins takes the maximum of the configured request. -/
@[simp] theorem maxLenIn_begins {s : State} {p : TrPhase} (h : s.tr.phase.resting = true) (hp : p.resting = false) :
    maxLenIn s p = maxLenOf s.cfg.count := by simp [maxLenIn, h, hp]

/-- A Transport that rests after phase `p` keeps it. -/
@[simp] theorem maxLenIn_rests {s : State} {p : TrPhase} (hp : p.resting = true) : maxLenIn s p = s.tr.maxLen := by
  simp [maxLenIn, hp]

@[simp] theorem leaveDone_rest {s : State} (h : s.tr.phase ≠ .done) : leaveDone s = s := by simp [leaveDone, h]

/-- Phase DONE is left by one tick. -/
theorem leaveDone_done {s : State} (h : s.tr.phase = .done) : leaveDone s = idlePass 1 s := by simp [leaveDone, h]

@[simp] theorem leaveDone_cfg (s : State) : (leaveDone s).cfg = s.cfg := by unfold leaveDone; split <;> simp
@[simp] theorem leaveDone_crc (s : State) : (leaveDone s).crc = s.crc := by unfold leaveDone; split <;> simp
@[simp] theorem leaveDone_tx (s : State) : (leaveDone s).tx = s.tx := by unfold leaveDone; split <;> simp
@[simp] theorem leaveDone_rx (s : State) : (leaveDone s).rx = s.rx := by unfold leaveDone; split <;> simp
@[simp] theorem leaveDone_rxlen (s : State) : (leaveDone s).rxlen = s.rxlen := by unfold leaveDone; split <;> simp
@[simp] theorem leaveDone_regframe (s : State) : (leaveDone s).regframe = s.regframe := by unfold leaveDone; split <;> simp
@[simp] theorem leaveDone_regframeValid (s : State) : (leaveDone s).regframeValid = s.regframeValid := by unfold leaveDone; split <;> simp
@[simp] theorem leaveDone_dirState (s : State) : (leaveDone s).dirState = s.dirState := by unfold leaveDone; split <;> simp
@[simp] theorem leaveDone_uartTxd (s : State) : (leaveDone s).uartTxd = s.uartTxd := by unfold leaveDone; split <;> simp
@[simp] theorem leaveDone_utx (s : State) : (leaveDone s).utx = s.utx := by unfold leaveDone; split <;> simp
@[simp] theorem leaveDone_urx (s : State) : (leaveDone s).urx = s.urx := by unfold leaveDone; split <;> simp
@[simp] theorem leaveDone_pollStatus (s : State) : (leaveDone s).pollStatus = s.pollStatus := by unfold leaveDone; split <;> simp
@[simp] theorem leaveDone_snap (s : State) : (leaveDone s).snap = s.snap := by unfold leaveDone; split <;> simp
@[simp] theorem leaveDone_db (s : State) : (leaveDone s).db = s.db := by unfold leaveDone; split <;> simp
@[simp] theorem leaveDone_disp (s : State) : (leaveDone s).disp = s.disp := by unfold leaveDone; split <;> simp
@[simp] theorem leaveDone_blink (s : State) : (leaveDone s).blink = s.blink := by unfold leaveDone; split <;> simp
@[simp] theorem leaveDone_out (s : State) : (leaveDone s).out = s.out := by unfold leaveDone; split <;> simp
@[simp] theorem leaveDone_ui (s : State) : (leaveDone s).ui = s.ui := by unfold leaveDone; split <;> simp
@[simp] theorem leaveDone_res (s : State) : (leaveDone s).res = s.res := by unfold leaveDone; split <;> simp

/-! ### The idle counter (R209) -/

theorem idleRun_le {t c : Nat} (h : c ≤ t) (levels : List Bool) : idleRun t c levels ≤ t := by
  unfold idleRun
  induction levels generalizing c with
  | nil => exact h
  | cons l ls ih => exact ih (by dsimp only; split; exacts [Nat.min_le_left _ _, Nat.zero_le _])

theorem idleAfter_le (t c : Nat) (line : List Bool) (n : Nat) : idleAfter t c line n ≤ t := by
  unfold idleAfter; omega

/-! ### Frames -/

theorem pollFrame_refl (s : State) : PollFrame s s := ⟨rfl, rfl, rfl, rfl, rfl, rfl, rfl, List.suffix_rfl, rfl⟩
theorem linkFrame_refl (s : State) : LinkFrame s s := ⟨pollFrame_refl s, rfl, rfl, rfl, rfl, rfl⟩
theorem sendFrame_refl (s : State) : SendFrame s s := ⟨linkFrame_refl s, rfl, rfl⟩

theorem pollFrame_trans {s t u : State} (h : PollFrame s t) (k : PollFrame t u) : PollFrame s u :=
  ⟨k.cfg.trans h.cfg, k.snap.trans h.snap, k.pollStatus.trans h.pollStatus, k.ui.trans h.ui, k.pend.trans h.pend,
    k.btn.trans h.btn, k.btnNext.trans h.btnNext, k.rstNext.trans h.rstNext, k.orderNext.trans h.orderNext⟩
theorem linkFrame_trans {s t u : State} (h : LinkFrame s t) (k : LinkFrame t u) : LinkFrame s u :=
  ⟨pollFrame_trans h.toPollFrame k.toPollFrame, k.crc.trans h.crc, k.tx.trans h.tx, k.regframe.trans h.regframe,
    k.regframeValid.trans h.regframeValid, by rw [k.mst, h.mst]⟩
theorem sendFrame_trans {s t u : State} (h : SendFrame s t) (k : SendFrame t u) : SendFrame s u :=
  ⟨linkFrame_trans h.toLinkFrame k.toLinkFrame, k.rx.trans h.rx, k.rxlen.trans h.rxlen⟩

theorem passTicks_frame (n : Nat) (s : State) : SendFrame s (passTicks n s) :=
  ⟨⟨⟨by simp, by simp, by simp, by simp [uiSide], by simp, by simp, by simp, by simp [List.drop_suffix], by simp⟩, by simp, by simp, by simp,
    by simp, passTicks_mst_frame n s⟩, by simp, by simp⟩
theorem idlePass_frame (n : Nat) (s : State) : SendFrame s (idlePass n s) :=
  ⟨⟨⟨by simp, by simp, by simp, by simp [uiSide], by simp, by simp, by simp, by simp [List.drop_suffix], by simp⟩, by simp, by simp, by simp,
    by simp, idlePass_mst_frame n s⟩, by simp, by simp⟩
theorem busyPass_frame (n : Nat) (s : State) : SendFrame s (busyPass n s) :=
  ⟨⟨⟨by simp, by simp, by simp, by simp [uiSide], by simp, by simp, by simp, by simp [List.drop_suffix], by simp⟩, by simp, by simp, by simp,
    by simp, busyPass_mst_frame n s⟩, by simp, by simp⟩
theorem leaveDone_frame (s : State) : SendFrame s (leaveDone s) := by
  unfold leaveDone; split
  · exact idlePass_frame 1 s
  · exact sendFrame_refl s
theorem enterPhase_frame (s : State) (p : TrPhase) : SendFrame s (s.enterPhase p) :=
  ⟨⟨⟨rfl, rfl, rfl, rfl, rfl, rfl, rfl, List.suffix_rfl, rfl⟩, rfl, rfl, rfl, rfl, rfl⟩, rfl, rfl⟩
theorem setTr_frame (s : State) (v : Tr) : SendFrame s (s.setTr v) :=
  ⟨⟨⟨rfl, rfl, rfl, rfl, rfl, rfl, rfl, List.suffix_rfl, rfl⟩, rfl, rfl, rfl, rfl, rfl⟩, rfl, rfl⟩
theorem setUtx_frame (s : State) (v : Utx) : SendFrame s (s.setUtx v) :=
  ⟨⟨⟨rfl, rfl, rfl, rfl, rfl, rfl, rfl, List.suffix_rfl, rfl⟩, rfl, rfl, rfl, rfl, rfl⟩, rfl, rfl⟩
theorem setUrx_frame (s : State) (v : Urx) : SendFrame s (s.setUrx v) :=
  ⟨⟨⟨rfl, rfl, rfl, rfl, rfl, rfl, rfl, List.suffix_rfl, rfl⟩, rfl, rfl, rfl, rfl, rfl⟩, rfl, rfl⟩
theorem setUartTxd_frame (s : State) (v : Bool) : SendFrame s (s.setUartTxd v) :=
  ⟨⟨⟨rfl, rfl, rfl, rfl, rfl, rfl, rfl, List.suffix_rfl, rfl⟩, rfl, rfl, rfl, rfl, rfl⟩, rfl, rfl⟩
theorem setDirState_frame (s : State) (v : Bool) : SendFrame s (s.setDirState v) :=
  ⟨⟨⟨rfl, rfl, rfl, rfl, rfl, rfl, rfl, List.suffix_rfl, rfl⟩, rfl, rfl, rfl, rfl, rfl⟩, rfl, rfl⟩
theorem setRes_frame (s : State) (v : OpResult) : SendFrame s (s.setRes v) :=
  ⟨⟨⟨rfl, rfl, rfl, rfl, rfl, rfl, rfl, List.suffix_rfl, rfl⟩, rfl, rfl, rfl, rfl, rfl⟩, rfl, rfl⟩
theorem setRx_frame (s : State) (v : Memory) : LinkFrame s (s.setRx v) :=
  ⟨⟨rfl, rfl, rfl, rfl, rfl, rfl, rfl, List.suffix_rfl, rfl⟩, rfl, rfl, rfl, rfl, rfl⟩
theorem setRxlen_frame (s : State) (v : Nat) : LinkFrame s (s.setRxlen v) :=
  ⟨⟨rfl, rfl, rfl, rfl, rfl, rfl, rfl, List.suffix_rfl, rfl⟩, rfl, rfl, rfl, rfl, rfl⟩

end Sys2Proof.Laws
end

