-- ==== Sys2Proof/Laws/Codec.lean ====
section
/-! SUPPORT. The field helpers of the decoder and what the encoder and the decoder of frames write. -/

namespace Sys2Proof.Laws

open Sys2Proof.Machine

/-! ### Byte order -/

@[simp] theorem beU16_hi_lo (v : U16) : beU16 (hiByte v) (loByte v) = v := by
  simp only [beU16, hiByte, loByte]
  ext i hi
  simp only [BitVec.getElem_append, BitVec.getElem_extractLsb']
  split
  · simp [← BitVec.getLsbD_eq_getElem]
  · rename_i h
    rw [← BitVec.getLsbD_eq_getElem]
    congr 1
    omega

@[simp] theorem hiByte_beU16 (h l : Byte) : hiByte (beU16 h l) = h := by
  simp only [beU16, hiByte]
  apply BitVec.eq_of_getLsbD_eq
  intro i hi
  rw [BitVec.getLsbD_extractLsb', BitVec.getLsbD_append]
  simp [hi]

@[simp] theorem loByte_beU16 (h l : Byte) : loByte (beU16 h l) = l := by
  simp only [beU16, loByte]
  apply BitVec.eq_of_getLsbD_eq
  intro i hi
  rw [BitVec.getLsbD_extractLsb', BitVec.getLsbD_append]
  simp [hi]

@[simp] theorem regBytes_length (regs : List U16) : (regBytes regs).length = 2 * regs.length := by
  simp [regBytes, List.length_flatMap]; omega

/-- Registers taken out of their bytes are the registers (R93, R97). -/
@[simp] theorem pairRegs_regBytes (regs : List U16) : pairRegs (regBytes regs) = regs := by
  induction regs with
  | nil => rfl
  | cons r rs ih => simpa [regBytes, pairRegs] using ih

theorem pairRegs_length (bs : List Byte) : (pairRegs bs).length = bs.length / 2 := by
  induction bs using pairRegs.induct with
  | case1 h l rest ih => simp only [pairRegs, List.length_cons, ih]; omega
  | case2 bs h =>
    match bs, h with
    | [], _ => rfl
    | [b], _ => simp [pairRegs]
    | b :: c :: r, h => exact absurd rfl (h b c r)

/-! ### Frames -/

@[simp] theorem reqBody_length (s : Byte) (a n : U16) : (reqBody s a n).length = 6 := rfl
@[simp] theorem reqBytes_length (s : Byte) (a n : U16) (l h : Byte) : (reqBytes s a n l h).length = 8 := rfl
@[simp] theorem requestBytes_length (s : Byte) (a n : U16) : (requestBytes s a n).length = 8 := rfl
@[simp] theorem excBytes_length (s : Byte) (f : BitVec 7) (c l h : Byte) : (excBytes s f c l h).length = 5 := rfl
@[simp] theorem rspBytes_length (s : Byte) (f : BitVec 7) (regs : List U16) (l h : Byte) :
    (rspBytes s f regs l h).length = 5 + 2 * regs.length := by
  simp [rspBytes, rspBody]; omega

/-- The trailer of a frame is what `CRC.CHK` compares with the register: low byte first (R98, R136). -/
theorem crcMatches_iff (c : U16) (lo hi : Byte) : crcMatches c lo hi = true ↔ leU16 lo hi = c := by
  simp only [crcMatches, leU16, Bool.and_eq_true, beq_iff_eq]
  constructor
  · rintro ⟨rfl, rfl⟩; exact beU16_hi_lo c
  · rintro rfl; exact ⟨(loByte_beU16 hi lo).symm, (hiByte_beU16 hi lo).symm⟩

/-! ### What the encoder and the decoder write -/

theorem encodeRequest_frame (slave : Byte) (start n : U16) (s : State) : PollFrame s (encodeRequest slave start n s) :=
  ⟨rfl, rfl, rfl, rfl, rfl, rfl, rfl, List.suffix_rfl, rfl⟩

/-- ENC.RDREQ: the request stands in `TX`, `crc` holds its CRC, every other byte of `TX` is as before (R160). -/
theorem encodeRequest_spec (slave : Byte) (start n : U16) (s : State) :
    txOperand (encodeRequest slave start n s) = some (requestBytes slave start n) ∧
      (∀ a, 8 ≤ a → Memory.read (encodeRequest slave start n s).tx a = Memory.read s.tx a) ∧
      (encodeRequest slave start n s).crc = crc16 (reqBody slave start n) ∧
      (encodeRequest slave start n s) = { s with tx := (encodeRequest slave start n s).tx, crc := crc16 (reqBody slave start n) } :=
  ⟨readN_writeN (requestBytes slave start n) s.tx 0, fun a h => read_writeN_other _ _ _ (Or.inr (by simpa using h)), rfl, rfl⟩

theorem decodeInto_result (buf : List Byte) (slave : Byte) (n : U16) (s : State) :
    (decodeInto buf slave n s).2 = decodeResponse buf slave n := by
  unfold decodeInto; split <;> simp_all

theorem decodeInto_frame (buf : List Byte) (slave : Byte) (n : U16) (s : State) :
    PollFrame s (decodeInto buf slave n s).1 := by
  unfold decodeInto; split <;> exact ⟨rfl, rfl, rfl, rfl, rfl, rfl, rfl, List.suffix_rfl, rfl⟩

/-- DEC.RESP: `crc` follows the checks; on `Ok` the frame is in `regframe`, otherwise nothing else changes (R165). -/
theorem decodeInto_spec (buf : List Byte) (slave : Byte) (n : U16) (s : State) :
    (∃ f, decodeResponse buf slave n = .ok f ∧ (decodeInto buf slave n s).1 =
      { s with crc := crcAfterDecode s.crc buf, regframe := f, regframeValid := true }) ∨
    (∃ e, decodeResponse buf slave n = .err e ∧ (decodeInto buf slave n s).1 = { s with crc := crcAfterDecode s.crc buf }) := by
  cases h : decodeResponse buf slave n with
  | ok f => exact Or.inl ⟨f, rfl, by simp [decodeInto, h]; rfl⟩
  | err e => exact Or.inr ⟨e, rfl, by simp [decodeInto, h]; rfl⟩

/-- A decoded frame has the registers asked for (R172). -/
theorem decodeResponse_length {buf : List Byte} {slave : Byte} {n : U16} {f : List U16}
    (h : decodeResponse buf slave n = .ok f) : f.length = n.toNat := by
  unfold decodeResponse at h
  dsimp only at h
  repeat' split at h
  all_goals first | (cases h; done) | skip
  rename_i hlen
  cases h
  rw [pairRegs_length]
  simp only [List.length_take, List.length_drop]
  omega

end Sys2Proof.Laws
end

