-- ==== Sys2Proof/Laws/Display.lean ====
section
/-! SUPPORT. What a ui tick does and leaves alone: debouncer, mode, snapshot read, blink, outputs. -/

namespace Sys2Proof.Laws

open Sys2Proof.Machine

/-! ### The debouncer -/

/-- One sample: the pin's counter starts anew, or its level changes with an event exactly on a rise, or the counter goes on
(R292). -/
theorem samplePin_cases (n : Nat) (r : Bool) (p : PinState) :
    (r = p.stable ∧ samplePin n r p = ({ p with cnt := 0 }, false)) ∨
    (r ≠ p.stable ∧ n ≤ p.cnt + 1 ∧ samplePin n r p = ({ stable := r, cnt := 0 }, r)) ∨
    (r ≠ p.stable ∧ p.cnt + 1 < n ∧ samplePin n r p = ({ p with cnt := p.cnt + 1 }, false)) := by
  unfold samplePin
  by_cases h : r = p.stable
  · simp [h]
  · by_cases h' : n ≤ p.cnt + 1
    · simp [h, h']
    · simp [h, h']; omega

/-- A sample keeps the counter below its limit (R33). -/
theorem samplePin_cnt {n : Nat} (hn : 1 ≤ n) (r : Bool) {p : PinState} (h : p.cnt < n) : (samplePin n r p).1.cnt < n := by
  rcases samplePin_cases n r p with ⟨_, e⟩ | ⟨_, _, e⟩ | ⟨_, h', e⟩ <;> rw [e] <;> simp <;> omega

@[simp] theorem sampleAll_keys (n : Nat) (raw : List Bool) (db : List (Nat × PinState)) :
    (sampleAll n raw db).1.map Prod.fst = db.map Prod.fst := by
  induction db with
  | nil => rfl
  | cons e db ih => simp [sampleAll, ih]

@[simp] theorem samplePinIn_keys (n p : Nat) (r : Bool) (db : List (Nat × PinState)) :
    (samplePinIn n p r db).1.map Prod.fst = db.map Prod.fst := by
  induction db with
  | nil => rfl
  | cons e db ih =>
    rw [samplePinIn]; split <;> simp_all

/-- Each entry after sampling all pins is its own sample (R310 step 1). -/
theorem sampleAll_entries (n : Nat) (raw : List Bool) (db : List (Nat × PinState)) :
    (sampleAll n raw db).1 = db.map fun e => (e.1, (samplePin n (rawLevel raw e.1) e.2).1) := by
  induction db with
  | nil => rfl
  | cons e db ih => simp [sampleAll, ih]

/-- The events of a ui tick are those of the single pins, in the list's order (R310 step 1). -/
theorem sampleAll_events (n : Nat) (raw : List Bool) (db : List (Nat × PinState)) :
    (sampleAll n raw db).2 = (db.filter fun e => (samplePin n (rawLevel raw e.1) e.2).2).map Prod.fst := by
  induction db with
  | nil => rfl
  | cons e db ih =>
    simp only [sampleAll, List.filter_cons]
    split <;> simp_all

/-! ### Events -/

/-- A Button Event touches the display mode only. -/
theorem buttonEvent_eq (s : State) (p : Nat) : buttonEvent s p = s.setDisp (buttonEvent s p).disp := by
  unfold buttonEvent; split <;> rfl

theorem events_eq (ps : List Nat) (s : State) : ps.foldl buttonEvent s = s.setDisp (ps.foldl buttonEvent s).disp := by
  induction ps generalizing s with
  | nil => rfl
  | cons p ps ih =>
    rw [List.foldl_cons, ih, buttonEvent_eq s p]
    rfl

/-- The display after a ui tick's events and its startup tick (R310). -/
def tickedDisp (raw : List Bool) (s : State) : Disp :=
  dwellTick s.cfg ((sampleAll s.cfg.debounceN raw s.db).2.foldl buttonEvent
    (s.setDb (sampleAll s.cfg.debounceN raw s.db).1)).disp

/-- A ui tick writes the UI agent's elements and nothing else (R310, R370). -/
theorem uiTick_eq (raw : List Bool) (s : State) : uiTick raw s =
    { s with
      db := (sampleAll s.cfg.debounceN raw s.db).1
      disp := tickedDisp raw s
      blink := blinkTick s.cfg s.snap.alert s.blink
      out := { mode := (tickedDisp raw s).mode, meas := intentMeasurement s.snap,
               blink := (blinkTick s.cfg s.snap.alert s.blink).visible } } := by
  rw [uiTick, events_eq, tickedDisp]
  generalize ((sampleAll s.cfg.debounceN raw s.db).2.foldl buttonEvent
    (s.setDb (sampleAll s.cfg.debounceN raw s.db).1)).disp = d
  simp only [driveIntent, readSnapshot, State.setOut, State.setBlink, State.setDisp, State.setDb]

theorem uiTick_pollSide (raw : List Bool) (s : State) : pollSide (uiTick raw s) = pollSide s := by
  rw [uiTick_eq]; rfl

/-! ### The blink timer -/

/-- BLK.TICK: rest without an alert, arm on its rise, otherwise count and toggle (R323 to R325). -/
theorem blinkTick_cases (c : Cfg) (a : Bool) (b : Blink) :
    (a = false ∧ blinkTick c a b = { visible := c.blinkIdle, cnt := 0, armed := false }) ∨
    (a = true ∧ b.armed = false ∧ blinkTick c a b = { visible := true, cnt := 0, armed := true }) ∨
    (a = true ∧ b.armed = true ∧ c.blinkN ≤ b.cnt + 1 ∧
      blinkTick c a b = { visible := !b.visible, cnt := 0, armed := true }) ∨
    (a = true ∧ b.armed = true ∧ b.cnt + 1 < c.blinkN ∧
      blinkTick c a b = { visible := b.visible, cnt := b.cnt + 1, armed := true }) := by
  obtain ⟨v, n, armed⟩ := b
  unfold blinkTick
  by_cases h : c.blinkN ≤ n + 1
  · cases a <;> cases armed <;> simp [h]
  · cases a <;> cases armed <;> simp [h]
    omega

/-! ### The startup sequence -/

/-- DSM.TICK: one more tick of the dwell, or the next step of the sequence, or nothing outside it (R314, R315). -/
theorem dwellTick_cases (c : Cfg) (d : Disp) :
    (∃ i, d.mode = .startup i ∧ d.dwell + 1 < c.startupN ∧ dwellTick c d = { d with dwell := d.dwell + 1 }) ∨
    (∃ i, d.mode = .startup i ∧ c.startupN ≤ d.dwell + 1 ∧ i + 1 < c.nMedia ∧
      dwellTick c d = { mode := .startup (i + 1), dwell := 0 }) ∨
    (∃ i, d.mode = .startup i ∧ c.startupN ≤ d.dwell + 1 ∧ c.nMedia ≤ i + 1 ∧
      dwellTick c d = { mode := .sensor, dwell := 0 }) ∨
    (d.mode.isStartup = false ∧ dwellTick c d = d) := by
  obtain ⟨mode, dwell⟩ := d
  cases mode with
  | startup i =>
    simp only [dwellTick]
    by_cases h : c.startupN ≤ dwell + 1
    · by_cases h' : c.nMedia ≤ i + 1
      · refine Or.inr (Or.inr (Or.inl ⟨i, rfl, h, h', ?_⟩)); simp [h, h']
      · refine Or.inr (Or.inl ⟨i, rfl, h, by omega, ?_⟩); simp [h, h']
    · refine Or.inl ⟨i, rfl, by omega, ?_⟩; simp [h]
  | media i => exact Or.inr (Or.inr (Or.inr ⟨rfl, rfl⟩))
  | sensor => exact Or.inr (Or.inr (Or.inr ⟨rfl, rfl⟩))

end Sys2Proof.Laws
end

