-- ==== Sys2Proof/Laws/Params.lean ====
section
/-! SUPPORT. What a well-formed configuration gives: the constraints of 00_scope.md R8, R13 one by one, and the derived
parameters' bounds. -/

namespace Sys2Proof.Laws

open Sys2Proof.Machine

/-- The constraints a well-formed configuration meets, by name. -/
structure CfgFacts (c : Cfg) : Prop where
  bitTicks : 1 ≤ c.bitTicks
  stopBits : c.stopBits = 1 ∨ c.stopBits = 2
  byteSize : c.byteSize = 8
  slaveLo : 1 ≤ c.slaveId.toNat
  slaveHi : c.slaveId.toNat ≤ 247
  countLo : 1 ≤ c.count
  countHi : c.count ≤ c.maxCount
  maxCount : c.maxCount ≤ 125
  startReg : c.startReg.toNat + c.count ≤ 65536
  vIdx : c.vIdx < c.count
  iIdx : c.iIdx < c.count
  pollInterval : 1 ≤ c.pollInterval
  respTimeout : 1 ≤ c.respTimeout
  uiTickTicks : 1 ≤ c.uiTickTicks
  nPin : c.pinmap.length = c.nPin
  nMedia : 1 ≤ c.nMedia
  pinmap : c.pinmap.all (pinUseOk c.nMedia) = true
  oneSensor : c.pinmap.count .sensor ≤ 1
  debounceN : 1 ≤ c.debounceN
  blinkN : 1 ≤ c.blinkN
  startupN : 1 ≤ c.startupN

/-- A configuration is well formed exactly when it meets every constraint. -/
theorem cfgWf_iff (c : Cfg) : cfgWf c = true ↔ CfgFacts c := by
  constructor
  · intro h
    simp only [cfgWf, decide_eq_true_eq] at h
    obtain ⟨h1, h2, h3, h4, h5, h6, h7, h8, h9, h10, h11,
      h12, h13, h14, h15, h16, h17, h18, h19, h20, h21⟩ := h
    exact ⟨h1, h2, h3, h4, h5, h6, h7, h8, h9, h10, h11, h12, h13, h14, h15, h16, h17, h18, h19, h20, h21⟩
  · intro h
    simp only [cfgWf, decide_eq_true_eq]
    exact ⟨h.1, h.2, h.3, h.4, h.5, h.6, h.7, h.8, h.9, h.10, h.11, h.12, h.13, h.14, h.15,
      h.16, h.17, h.18, h.19, h.20, h.21⟩

/-- A character has at least ten bits. -/
theorem ten_le_charBits {c : Cfg} (h : CfgFacts c) : 10 ≤ charBits c := by
  rcases h.stopBits with h | h <;> simp only [charBits, h] <;> split <;> omega

/-- The shift registers hold a whole character. -/
theorem charBits_le_twelve {c : Cfg} (h : CfgFacts c) : charBits c ≤ 12 := by
  rcases h.stopBits with h | h <;> simp only [charBits, h] <;> split <;> omega

/-- A character lasts at least a tick. -/
theorem charTicks_pos {c : Cfg} (h : CfgFacts c) : 0 < charTicks c :=
  Nat.mul_pos (by have := ten_le_charBits h; omega) h.bitTicks

/-- `T35_TICKS` is three and a half character times, rounded up. -/
theorem t35Ticks_spec (c : Cfg) : 7 * charTicks c ≤ 2 * t35Ticks c ∧ 2 * t35Ticks c ≤ 7 * charTicks c + 1 := by
  simp only [t35Ticks]; omega

/-- `COUNT` fits the operand of MST.POLL. -/
theorem countOperand_toNat {c : Cfg} (h : CfgFacts c) : (countOperand c).toNat = c.count := by
  have := h.countHi; have := h.maxCount
  simp [countOperand]; omega

/-- The configured poll is valid (R241). -/
theorem validPoll_configured {c : Cfg} (h : CfgFacts c) : validPoll c c.slaveId c.startReg (countOperand c) = true := by
  have := h.slaveLo; have := h.slaveHi; have := h.countLo; have := h.countHi; have := h.startReg
  simp [validPoll, countOperand_toNat h]; omega

/-- What a valid triple is (R241). -/
theorem validPoll_iff (c : Cfg) (slave : Byte) (start n : U16) : validPoll c slave start n = true ↔
    1 ≤ slave.toNat ∧ slave.toNat ≤ 247 ∧ 1 ≤ n.toNat ∧ n.toNat ≤ c.maxCount ∧ start.toNat + n.toNat ≤ 65536 := by
  simp [validPoll, and_assoc]

/-- The configuration of State.reset is well formed. -/
theorem reset_cfgWf : cfgWf Cfg.vectorDefault = true := by decide

end Sys2Proof.Laws
end

