-- ==== Sys2Proof/Laws/Uart.lean ====
section
/-! SUPPORT. What the UART's operations do and what they leave alone: the transmitter's drain and a whole character, the
receiver's tick, one received character. -/

namespace Sys2Proof.Laws

open Sys2Proof.Machine

/-! ### Levels of a character -/

@[simp] theorem dataBits_length (d : Byte) : (dataBits d).length = 8 := rfl

@[simp] theorem frameLevels_length (d : Byte) (p : Option Bool) (n : Nat) :
    (frameLevels d p n).length = 9 + p.toList.length + n := by
  simp [frameLevels]; omega

theorem charLevels_length (c : Cfg) (d : Byte) : (charLevels c d).length = charBits c := by
  rw [charLevels, frameLevels_length, charBits]
  cases c.parity <;> simp [parityBit]

/-- A shift register loaded with at most twelve levels shows them, the first in bit 0. -/
theorem packLevels_getLsbD {ls : List Bool} (h : ls.length ≤ 12) (i : Nat) :
    (packLevels ls).getLsbD i = ls.getD i false := by
  rw [packLevels, BitVec.getLsbD_setWidth, BitVec.getLsbD_ofBoolListLE]
  by_cases hi : i < 12
  · simp [hi]
  · have : ls.length ≤ i := by omega
    simp [hi, List.getElem?_eq_none this]

/-- The levels a transmitter still has to send are the bit times left, less the ticks of the current one. -/
theorem utxLeft_length (c : Cfg) (u : Utx) :
    (utxLeft c u).length = (charBits c - u.bitcnt) * c.bitTicks - u.tickcnt := by
  simp [utxLeft, List.length_flatMap]

/-- A transmitter that has just been loaded has the whole character to send, each level for a bit time (R96, R200). -/
theorem utxLeft_loaded {c : Cfg} (h : charBits c ≤ 12) (d : Byte) :
    utxLeft c { shift := packLevels (charLevels c d), bitcnt := 0, tickcnt := 0, busy := true } =
      (charLevels c d).flatMap (List.replicate c.bitTicks) := by
  have hl := charLevels_length c d
  simp only [utxLeft, Nat.sub_zero, List.drop_zero]
  have : charLevels c d = (List.range (charBits c)).map fun j => (packLevels (charLevels c d)).getLsbD j := by
    apply List.ext_getElem
    · simp [hl]
    · intro i h1 h2
      simp [packLevels_getLsbD (hl ▸ h), h1]
  conv_rhs => rw [this]
  rw [List.flatMap_map]

/-! ### The transmitter -/

@[simp] theorem drain_idle {s : State} (h : s.utx.busy = false) : drain s = s := by simp [drain, h]

/-- What letting the transmitter finish does: it sends what is left, at one level a tick, and rests (R196, R200). -/
theorem drain_spec (s : State) (h : s.utx.busy = true) :
    (drain s).utx = utxOff ∧ (drain s).uartTxd = true ∧
      (drain s).now = s.now + BitVec.ofNat 64 (utxLeft s.cfg s.utx).length ∧
      (drain s).env = { s.env with
        line := s.env.line.drop (utxLeft s.cfg s.utx).length, rstNext := s.env.rstNext.drop (utxLeft s.cfg s.utx).length
        txdLog := s.env.txdLog ++ utxLeft s.cfg s.utx } ∧
      (drain s).dirState = s.dirState ∧ (drain s).urx = s.urx := by
  simp [drain, h]

theorem drain_busy (s : State) : (drain s).utx.busy = false := by
  cases h : s.utx.busy
  · rw [drain_idle h, h]
  · rw [(drain_spec s h).1]; rfl

theorem setEnv_frame (s : State) (line : List Bool) (log : List Bool) :
    SendFrame s (s.setEnv { s.env with line := line, txdLog := log }) :=
  ⟨⟨⟨rfl, rfl, rfl, rfl, rfl, rfl, rfl, List.suffix_rfl, rfl⟩, rfl, rfl, rfl, rfl, rfl⟩, rfl, rfl⟩

theorem drain_frame (s : State) : SendFrame s (drain s) := by
  unfold drain
  split
  · exact sendFrame_trans (busyPass_frame _ s) (sendFrame_trans (setUtx_frame _ _) (sendFrame_trans (setUartTxd_frame _ _)
      (setEnv_frame ((busyPass _ s).setUtx utxOff |>.setUartTxd true) _ _)))
  · exact sendFrame_refl s

theorem loadChar_frame (d : Byte) (s : State) : SendFrame s (loadChar d s) :=
  sendFrame_trans (setUtx_frame s _) (setUartTxd_frame _ _)

theorem sendChar_frame (d : Byte) (s : State) : SendFrame s (sendChar d s) :=
  sendFrame_trans (drain_frame s) (sendFrame_trans (loadChar_frame d _) (drain_frame _))

/-- A character sent by a free transmitter: its levels stand on the line, each for a bit time, and that is the time that
passes (R200). -/
theorem sendChar_spec {s : State} (hc : charBits s.cfg ≤ 12) (h : s.utx.busy = false) (d : Byte) :
    (sendChar d s).utx = utxOff ∧ (sendChar d s).uartTxd = true ∧
      (sendChar d s).now = s.now + BitVec.ofNat 64 (charTicks s.cfg) ∧
      (sendChar d s).env = { s.env with
        line := s.env.line.drop (charTicks s.cfg), rstNext := s.env.rstNext.drop (charTicks s.cfg)
        txdLog := s.env.txdLog ++ (charLevels s.cfg d).flatMap (List.replicate s.cfg.bitTicks) } := by
  have key := utxLeft_loaded hc d
  have hlen : (utxLeft s.cfg { shift := packLevels (charLevels s.cfg d), bitcnt := 0, tickcnt := 0, busy := true }).length =
      charTicks s.cfg := by rw [utxLeft_length]; simp [charTicks]
  have hb : (loadChar d s).utx.busy = true := rfl
  have e : sendChar d s = drain (loadChar d s) := by rw [sendChar, drain_idle h]
  obtain ⟨h1, h2, h3, h4, _⟩ := drain_spec (loadChar d s) hb
  have hu : (loadChar d s).utx = { shift := packLevels (charLevels s.cfg d), bitcnt := 0, tickcnt := 0, busy := true } := rfl
  have hcfg : (loadChar d s).cfg = s.cfg := rfl
  have henv : (loadChar d s).env = s.env := rfl
  have hnow : (loadChar d s).now = s.now := rfl
  rw [hu, hcfg, henv, hlen, key] at h4
  rw [hu, hcfg, hnow, hlen] at h3
  exact ⟨e ▸ h1, e ▸ h2, e ▸ h3, e ▸ h4⟩

/-! ### The receiver -/

/-- A receiver that is off stays as it is. -/
@[simp] theorem urxTick_off {c : Cfg} {rxd : Bool} {u : Urx} (h : u.enable = false) : urxTick c rxd u = (u, none) := by
  simp [urxTick, h]

/-- A receiver between characters on an idle line stays as it is. -/
@[simp] theorem urxTick_quiet {c : Cfg} {u : Urx} (h : u.busy = false) : urxTick c true u = (u, none) := by
  simp [urxTick, h]

/-- A tick does not switch the receiver on or off. -/
@[simp] theorem urxTick_enable (c : Cfg) (rxd : Bool) (u : Urx) : (urxTick c rxd u).1.enable = u.enable := by
  unfold urxTick
  split
  · rfl
  · dsimp only
    repeat' split
    all_goals rfl

theorem receiveChar_frame (s : State) : SendFrame s (receiveChar s).1 := by
  unfold receiveChar
  split
  · exact sendFrame_refl s
  · exact sendFrame_trans (passTicks_frame _ s) (sendFrame_trans (setUrx_frame _ _) (setTr_frame _ _))

/-- A receiver that is off receives nothing. -/
theorem nextChar_off {c : Cfg} {u : Urx} (h : u.enable = false) (ls : List Bool) : nextChar c u ls = none := by
  induction ls with
  | nil => rfl
  | cons l ls ih => simp [nextChar, urxTick_off h, ih]

theorem receiveChar_off {s : State} (h : s.urx.enable = false) : receiveChar s = (s, none) := by
  simp [receiveChar, nextChar_off h]

theorem receiveRun_idle_le (c : Cfg) (levels : List Bool) (u : Urx) {idle : Nat} (h : idle ≤ t35Ticks c) :
    (receiveRun c levels u idle).2 ≤ t35Ticks c := by
  unfold receiveRun
  induction levels generalizing u idle with
  | nil => exact h
  | cons l ls ih => exact ih _ (by split; exacts [Nat.min_le_left _ _, Nat.zero_le _])

theorem idleAfterReceive_le (c : Cfg) (idle : Nat) (line : List Bool) (n : Nat) (u : Urx) :
    idleAfterReceive c idle line n u ≤ t35Ticks c := Nat.min_le_left _ _

end Sys2Proof.Laws
end

