-- ==== Sys2Proof/Laws/Transport.lean ====
section
/-! SUPPORT. What each step of a transaction does: where it leaves the phase, the direction, the receiver and the request
index, and what it leaves alone; what a reception gives. -/

namespace Sys2Proof.Laws

open Sys2Proof.Machine

/-! ### TR.GAP -/

theorem waitGap_frame (s : State) : SendFrame s (waitGap s) :=
  sendFrame_trans (drain_frame s) (sendFrame_trans (leaveDone_frame _) (sendFrame_trans (enterPhase_frame _ _)
    (idlePass_frame _ _)))

/-- Waiting for the gap ends with the line idle for long enough (R193). -/
theorem idleAfter_gapTicks (t c : Nat) (h : c ≤ t) (line : List Bool) : idleAfter t c line (gapTicks t c line) = t := by
  induction line generalizing c with
  | nil => simp [idleAfter, gapTicks, idleRun]; omega
  | cons l ls ih =>
    rw [gapTicks]
    split
    · have : c = t := by omega
      subst this
      simp [idleAfter, idleRun]
    · rename_i hlt
      have hle : (if l = true then min t (c + 1) else 0) ≤ t := by
        split; exacts [Nat.min_le_left _ _, Nat.zero_le _]
      have := ih _ hle
      rw [idleAfter] at this ⊢
      simp only [List.length_cons]
      rw [show 1 + gapTicks t (if l = true then min t (c + 1) else 0) ls - (ls.length + 1) =
        gapTicks t (if l = true then min t (c + 1) else 0) ls - ls.length by omega, Nat.add_comm 1, List.take_succ_cons]
      simpa [idleRun] using this

/-- Waiting keeps a phase other than DONE. -/
theorem idlePass_phase {s : State} (h : s.tr.phase ≠ .done) (n : Nat) : (idlePass n s).tr.phase = s.tr.phase := by
  unfold idlePass passTicks; split <;> simp_all

/-- TR.GAP: phase GAP, the receiver off, the direction and the transmitter's rest as before the wait (R193). -/
theorem waitGap_spec (s : State) :
    (waitGap s).tr.phase = .gap ∧ (waitGap s).urx = urxOff ∧ (waitGap s).utx = (drain s).utx ∧
      (waitGap s).dirState = (drain s).dirState := by
  refine ⟨idlePass_phase (s := (leaveDone (drain s)).enterPhase .gap) (by simp) _, ?_, ?_, ?_⟩ <;> simp [waitGap]

/-! ### TR.TXEN, TR.WRITE, TR.FLUSH -/

theorem assertDir_frame (s : State) : SendFrame s (assertDir s) :=
  sendFrame_trans (enterPhase_frame s .tx) (sendFrame_trans (setDirState_frame _ true) (setTr_frame _ _))

theorem sendCounted_frame (s : State) (d : Byte) : SendFrame s (sendCounted s d) :=
  sendFrame_trans (sendChar_frame d s) (setTr_frame _ _)

theorem writeRequest_frame (req : List Byte) (s : State) : SendFrame s (writeRequest req s) := by
  unfold writeRequest
  generalize req.drop s.tr.txidx = bytes
  induction bytes generalizing s with
  | nil => exact sendFrame_refl s
  | cons d ds ih => exact sendFrame_trans (sendCounted_frame s d) (ih _)

theorem flushTx_frame (s : State) : SendFrame s (flushTx s) :=
  sendFrame_trans (enterPhase_frame s .flush) (drain_frame _)

/-- After the flush nothing is being sent (R196, R405). -/
theorem flushTx_busy (s : State) : (flushTx s).utx.busy = false := drain_busy _

/-! ### TR.RXEN -/

theorem releaseDir_frame (s : State) : SendFrame s (releaseDir s) :=
  sendFrame_trans (enterPhase_frame s .turn) (setDirState_frame _ false)

theorem receiveEnable_frame (s : State) : LinkFrame s (receiveEnable s) := by
  unfold receiveEnable
  cases h : s.env.answers <;>
    exact ⟨⟨rfl, rfl, rfl, rfl, rfl, rfl, rfl, List.suffix_rfl, rfl⟩, rfl, rfl, rfl, rfl, rfl⟩

theorem enableReceive_frame (s : State) : LinkFrame s (enableReceive s) :=
  linkFrame_trans (sendFrame_trans (drain_frame s) (sendFrame_trans (idlePass_frame 1 _) (sendFrame_trans
    (releaseDir_frame _) (idlePass_frame _ _)))).toLinkFrame (receiveEnable_frame _)

/-- Receive-enable: phase RX, the receiver on, the buffer empty, the reception's registers cleared (R198). -/
theorem receiveEnable_spec (s : State) :
    (receiveEnable s).tr.phase = .rx ∧ (receiveEnable s).urx = urxOn ∧ (receiveEnable s).rx = [] ∧
      (receiveEnable s).rxlen = 0 ∧ (receiveEnable s).tr.ioErr = false ∧ (receiveEnable s).tr.silenceCnt = 0 ∧
      (receiveEnable s).tr.timeoutCnt = 0 ∧ (receiveEnable s).tr.maxLen = s.tr.maxLen ∧
      (receiveEnable s).dirState = s.dirState ∧ (receiveEnable s).now = s.now ∧ (receiveEnable s).utx = s.utx := by
  simp [receiveEnable]

/-! ### TR.READ -/

theorem readResponse_frame (m : Nat) (s : State) : LinkFrame s (readResponse m s) :=
  linkFrame_trans (passTicks_frame (reception m s).endTick s).toLinkFrame (linkFrame_trans (setTr_frame _ _).toLinkFrame
    (linkFrame_trans (enterPhase_frame _ .done).toLinkFrame (linkFrame_trans (setRx_frame _ _)
      (linkFrame_trans (setRxlen_frame _ _) (setTr_frame _ _).toLinkFrame))))

/-- What a reception leaves: the bytes it accepted, its error flag, the receiver off, phase DONE, its ticks passed (R199,
R202). -/
theorem readResponse_spec (m : Nat) (s : State) :
    (readResponse m s).rx = Memory.writeN [] 0 (reception m s).bytes ∧
      (readResponse m s).rxlen = (reception m s).bytes.length ∧ (readResponse m s).tr.ioErr = (reception m s).ioErr ∧
      (readResponse m s).urx = urxOff ∧ (readResponse m s).tr.phase = .done ∧
      (readResponse m s).now = s.now + BitVec.ofNat 64 (reception m s).endTick ∧
      (readResponse m s).dirState = s.dirState := by
  simp [readResponse]

/-- The loop of R199 ends by its timeout, accepts at most `m` bytes, and keeps what it has accepted. -/
theorem receiveLoop_spec (b : RxBounds) (t : Nat) (seen : Bool) (acc : List Byte) (err : Bool) (ev : Answer)
    (ht : t ≤ b.timeout) (hm : acc.length < b.m) :
    (receiveLoop b t seen acc err ev).endTick ≤ b.timeout ∧ (receiveLoop b t seen acc err ev).bytes.length ≤ b.m ∧
      acc <+: (receiveLoop b t seen acc err ev).bytes := by
  have hs : ∀ t acc err, acc.length < b.m → (silenceEnd b t acc err).endTick ≤ b.timeout ∧
      (silenceEnd b t acc err).bytes.length ≤ b.m ∧ acc <+: (silenceEnd b t acc err).bytes := by
    intro t acc err h
    unfold silenceEnd
    split
    · exact ⟨by assumption, Nat.le_of_lt h, List.prefix_rfl⟩
    · exact ⟨le_rfl, Nat.le_of_lt h, List.prefix_rfl⟩
  induction ev generalizing t seen acc err with
  | nil =>
    unfold receiveLoop
    split
    · exact hs t acc err hm
    · exact ⟨le_rfl, Nat.le_of_lt hm, List.prefix_rfl⟩
  | cons p ev ih =>
    obtain ⟨gap, item⟩ := p
    unfold receiveLoop
    split
    · exact hs t acc err hm
    · dsimp only
      split
      · exact ⟨le_rfl, Nat.le_of_lt hm, List.prefix_rfl⟩
      · cases item with
        | byte d =>
          dsimp only
          split
          · rename_i h _
            exact ⟨by dsimp only; omega, by simp; omega, by simp⟩
          · rename_i h hne
            simp only [List.length_append, List.length_singleton] at hne
            obtain ⟨h1, h2, h3⟩ := ih (t + gap + b.charTicks) true (acc ++ [d]) err (by omega) (by simp; omega)
            exact ⟨h1, h2, (List.prefix_append acc [d]).trans h3⟩
        | error =>
          dsimp only
          split
          · omega
          · exact ih (t + gap + b.charTicks) true acc true (by omega) hm

/-! ### TR.TRANSACT -/

theorem transact_frame (req : List Byte) (m : Nat) (s : State) : LinkFrame s (transact req m s).1 :=
  linkFrame_trans (sendFrame_trans (waitGap_frame s) (sendFrame_trans (setTr_frame _ _) (sendFrame_trans
    (assertDir_frame _) (sendFrame_trans (writeRequest_frame req _) (flushTx_frame _))))).toLinkFrame
    (linkFrame_trans (enableReceive_frame _) (readResponse_frame m _))

/-- A transaction ends in phase DONE with the receiver off (R191, R199). -/
theorem transact_phase (req : List Byte) (m : Nat) (s : State) :
    (transact req m s).1.tr.phase = .done ∧ (transact req m s).1.urx = urxOff :=
  ⟨(readResponse_spec _ _).2.2.2.2.1, (readResponse_spec _ _).2.2.2.1⟩

end Sys2Proof.Laws
end

