-- ==== Sys2Proof/Laws/Master.lean ====
section
/-! SUPPORT. What an attempt, a poll and the wait of a cycle leave alone, and what conversion and report do. -/

namespace Sys2Proof.Laws

open Sys2Proof.Machine

/-! ### Attempts and polls -/

theorem setMst_frame (s : State) (v : Mst) : PollFrame s (s.setMst v) := ⟨rfl, rfl, rfl, rfl, rfl, rfl, rfl, List.suffix_rfl, rfl⟩

theorem attempt_frame (req : List Byte) (slave : Byte) (n : U16) (s : State) : PollFrame s (attempt req slave n s).1 := by
  have h := pollFrame_trans (setMst_frame s { s.mst with phase := .transact, backoffCnt := 0, held := false })
    (transact_frame req (maxLenOf n.toNat) _).toPollFrame
  unfold attempt
  dsimp only
  split
  · exact pollFrame_trans h (pollFrame_trans (setMst_frame _ _) (decodeInto_frame _ slave n _))
  · exact h

theorem attempts_frame (req : List Byte) (slave : Byte) (n : U16) (k : Nat) (s : State) :
    PollFrame s (attempts req slave n k s).1 := by
  induction k generalizing s with
  | zero =>
    have h := attempt_frame req slave n s
    rw [attempts]; split <;> exact h
  | succ k ih =>
    have h := attempt_frame req slave n s
    rw [attempts]
    split
    · exact h
    · exact h
    · exact pollFrame_trans h (pollFrame_trans (setMst_frame _ _) (pollFrame_trans (idlePass_frame _ _).toPollFrame
        (pollFrame_trans (setMst_frame _ _) (ih _))))

/-- A poll leaves the slot, the report, the UI agent and the configuration alone (R250, R370). -/
theorem poll_frame (slave : Byte) (start n : U16) (s : State) : PollFrame s (poll slave start n s).1 :=
  pollFrame_trans (setMst_frame s _) (pollFrame_trans (encodeRequest_frame slave start n _)
    (pollFrame_trans (setMst_frame _ _) (attempts_frame _ _ _ _ _)))

/-- The attempt's outcome is the decoder's on the bytes the Transport delivered, or the Transport's error (R242). -/
theorem attempt_spec (req : List Byte) (slave : Byte) (n : U16) (s : State) :
    (∃ bytes, (transact req (maxLenOf n.toNat) (s.setMstPhase .transact)).2 = .ok bytes ∧
      (attempt req slave n s).2 = .decoded (decodeResponse bytes slave n)) ∨
    (∃ e, (transact req (maxLenOf n.toNat) (s.setMstPhase .transact)).2 = .err e ∧
      (attempt req slave n s).2 = .transport e) := by
  unfold attempt
  dsimp only
  cases h : (transact req (maxLenOf n.toNat) (s.setMstPhase .transact)).2 with
  | ok bytes => exact Or.inl ⟨bytes, rfl, by simp [decodeInto_result]⟩
  | err e => exact Or.inr ⟨e, rfl, rfl⟩

/-- The three things a poll's loop can do with an attempt (R242, R244). -/
theorem attempts_succ (req : List Byte) (slave : Byte) (n : U16) (k : Nat) (s : State) :
    attempts req slave n (k + 1) s =
      match verdict (attempt req slave n s).2 with
      | .success f => ((attempt req slave n s).1, .ok f)
      | .reject => ((attempt req slave n s).1, .err .protocolFault)
      | .retry => attempts req slave n k
          (returnFromError (idlePass (attempt req slave n s).1.cfg.backoff (takeError (attempt req slave n s).1))) := rfl

/-- Success is a frame from the decoder, with the registers asked for. -/
theorem verdict_success {o : AttemptResult} {f : List U16} (h : verdict o = .success f) : o = .decoded (.ok f) := by
  cases o with
  | transport e => cases e <;> simp [verdict] at h
  | decoded r =>
    cases r with
    | ok g => simp [verdict] at h; rw [h]
    | err e => cases e <;> simp [verdict] at h

/-- A frame a poll returns has the registers asked for (R242, R172). -/
theorem attempts_length (req : List Byte) (slave : Byte) (n : U16) (k : Nat) (s : State) {f : List U16}
    (h : (attempts req slave n k s).2 = .ok f) : f.length = n.toNat := by
  have one : ∀ s, verdict (attempt req slave n s).2 = .success f → f.length = n.toNat := by
    intro s hv
    have hs := verdict_success hv
    rcases attempt_spec req slave n s with ⟨bytes, _, hb⟩ | ⟨e, _, hb⟩
    · rw [hb] at hs
      cases hd : decodeResponse bytes slave n with
      | ok g => rw [hd] at hs; cases hs; exact decodeResponse_length hd
      | err e => rw [hd] at hs; cases hs
    · rw [hb] at hs; cases hs
  induction k generalizing s with
  | zero =>
    rw [attempts] at h
    split at h <;> cases h
    exact one s (by assumption)
  | succ k ih =>
    rw [attempts_succ] at h
    split at h
    · cases h; exact one s (by assumption)
    · cases h
    · exact ih _ h

/-! ### The cycle -/

theorem awaitInterval_frame (s : State) : PollFrame s (awaitInterval s) :=
  pollFrame_trans (setMst_frame s _) (pollFrame_trans (drain_frame _).toPollFrame
    (pollFrame_trans (idlePass_frame _ _).toPollFrame (setMst_frame _ _)))

/-- A frame with the two relevant registers converts (R271). -/
theorem convertFrame_spec {c : Cfg} {f : List U16} (hv : c.vIdx < f.length) (hi : c.iIdx < f.length) (now : BitVec 64) :
    convertFrame c f now = some (measurementOf c f[c.vIdx] f[c.iIdx] now,
      alertOf c (scaleI c.numerics f[c.iIdx])) := by
  simp [convertFrame, frameReg, hv, hi, measurementOf]

end Sys2Proof.Laws
end

