-- ==== Sys2Proof/Laws/PerInstr.lean ====
section
/-! SUPPORT. Family `RowBits`: the word the encoder writes for an instruction has the fixed bits of the instruction's row of
spec/opcode_table.json (30_encoding.md R110, R111). One lemma per constructor. -/

namespace Sys2Proof.Laws.RowBits

open Sys2Proof.Machine

/-- The fixed bits of a row: an operation's identifier; the masked byte 1 of a frame and the frame's length where the row
fixes it; the length of a character, its start bit and its stop bits. -/
inductive Pattern where
  | ident (id : Byte)
  | frame (length : Option Nat) (mask value : Byte)
  | char (format : CharFormat) (bits stopBits : Nat)
deriving DecidableEq, Repr

/-- A word has the fixed bits of a row. -/
def Fits : Pattern → StreamWord → Prop
  | .ident id, .op bytes => bytes.head? = some id
  | .frame length mask value, .frame bytes =>
    (∀ n, length = some n → bytes.length = n) ∧ bytes.getD 1 0 &&& mask = value
  | .char format bits stopBits, .char f levels =>
    f = format ∧ levels.length = bits ∧ levels.head? = some false ∧
      levels.drop (bits - stopBits) = List.replicate stopBits true
  | _, _ => False

/-- The row's fixed bits, as the table prints them. -/
def pattern : Instr → Pattern
  | .reset => .ident 0x00
  | .crcInit => .ident 0x01
  | .crcBit _ => .ident 0x02
  | .crcUpd _ => .ident 0x03
  | .crcGet => .ident 0x04
  | .crcChk _ _ => .ident 0x05
  | .encRdreq _ _ _ => .ident 0x10
  | .decResp _ _ _ => .ident 0x11
  | .trTransact _ _ => .ident 0x20
  | .trGap => .ident 0x21
  | .trTxen => .ident 0x22
  | .trWrite => .ident 0x23
  | .trFlush => .ident 0x24
  | .trRxen => .ident 0x25
  | .trRead => .ident 0x26
  | .uartTxchar _ => .ident 0x27
  | .uartRxchar => .ident 0x28
  | .mstPoll _ _ _ => .ident 0x30
  | .mstCycle => .ident 0x31
  | .spConvert _ => .ident 0x40
  | .spPublish _ _ => .ident 0x41
  | .dbSample _ _ => .ident 0x50
  | .uiTick _ => .ident 0x60
  | .dsmTick => .ident 0x61
  | .dsmBtnMedia _ => .ident 0x62
  | .dsmBtnSensor => .ident 0x63
  | .dsmMeas => .ident 0x64
  | .blkTick _ => .ident 0x65
  | .req _ _ _ _ _ => .frame (some 8) 0xFF 0x03
  | .rsp _ _ _ _ _ => .frame none 0x80 0x00
  | .exc _ _ _ _ _ => .frame (some 5) 0x80 0x80
  | .char8N1 _ => .char .n1 10 1
  | .char8P1 _ _ => .char .p1 11 1
  | .char8N2 _ => .char .n2 11 2
  | .char8P2 _ _ => .char .p2 12 2

/-- The encoded word has the row's fixed bits. -/
def Statement (i : Instr) : Prop := Fits (pattern i) (encode i)

/-- Bit 7 of a frame's function byte is 0 in a normal response, whatever its low seven bits are (R93, R95). -/
theorem normal_bit (f : BitVec 7) : (f.setWidth 8 : Byte) &&& 0x80 = 0x00 := by revert f; decide

/-- Bit 7 of a frame's function byte is 1 in an exception response (R94, R95). -/
theorem exception_bit (f : BitVec 7) : ((f.setWidth 8 : Byte) ||| 0x80) &&& 0x80 = 0x80 := by revert f; decide

theorem reset : Statement .reset := rfl
theorem crcInit : Statement .crcInit := rfl
theorem crcBit (b : Bool) : Statement (.crcBit b) := rfl
theorem crcUpd (d : Byte) : Statement (.crcUpd d) := rfl
theorem crcGet : Statement .crcGet := rfl
theorem crcChk (lo hi : Byte) : Statement (.crcChk lo hi) := rfl
theorem encRdreq (slave : Byte) (start count : U16) : Statement (.encRdreq slave start count) := rfl
theorem decResp (buf : List Byte) (slave : Byte) (count : U16) : Statement (.decResp buf slave count) := rfl
theorem trTransact (request : List Byte) (m : Nat) : Statement (.trTransact request m) := rfl
theorem trGap : Statement .trGap := rfl
theorem trTxen : Statement .trTxen := rfl
theorem trWrite : Statement .trWrite := rfl
theorem trFlush : Statement .trFlush := rfl
theorem trRxen : Statement .trRxen := rfl
theorem trRead : Statement .trRead := rfl
theorem uartTxchar (d : Byte) : Statement (.uartTxchar d) := rfl
theorem uartRxchar : Statement .uartRxchar := rfl
theorem mstPoll (slave : Byte) (start count : U16) : Statement (.mstPoll slave start count) := rfl
theorem mstCycle : Statement .mstCycle := rfl
theorem spConvert (f : FrameRef) : Statement (.spConvert f) := rfl
theorem spPublish (m : Measurement) (alert : Bool) : Statement (.spPublish m alert) := rfl
theorem dbSample (p : Nat) (r : Bool) : Statement (.dbSample p r) := rfl
theorem uiTick (raw : List Bool) : Statement (.uiTick raw) := rfl
theorem dsmTick : Statement .dsmTick := rfl
theorem dsmBtnMedia (index : Nat) : Statement (.dsmBtnMedia index) := rfl
theorem dsmBtnSensor : Statement .dsmBtnSensor := rfl
theorem dsmMeas : Statement .dsmMeas := rfl
theorem blkTick (a : Bool) : Statement (.blkTick a) := rfl
theorem req (slave : Byte) (start count : U16) (crcLo crcHi : Byte) : Statement (.req slave start count crcLo crcHi) := ⟨fun _ h => by cases h; rfl, (by decide : (0x03 : Byte) &&& 0xFF = 0x03)⟩
theorem rsp (slave : Byte) (func : BitVec 7) (regs : List U16) (crcLo crcHi : Byte) : Statement (.rsp slave func regs crcLo crcHi) := ⟨fun _ h => (by cases h), normal_bit func⟩
theorem exc (slave : Byte) (func : BitVec 7) (code crcLo crcHi : Byte) : Statement (.exc slave func code crcLo crcHi) := ⟨fun _ h => by cases h; rfl, exception_bit func⟩
theorem char8N1 (d : Byte) : Statement (.char8N1 d) := ⟨rfl, rfl, rfl, rfl⟩
theorem char8P1 (d : Byte) (p : Bool) : Statement (.char8P1 d p) := ⟨rfl, rfl, rfl, rfl⟩
theorem char8N2 (d : Byte) : Statement (.char8N2 d) := ⟨rfl, rfl, rfl, rfl⟩
theorem char8P2 (d : Byte) (p : Bool) : Statement (.char8P2 d p) := ⟨rfl, rfl, rfl, rfl⟩

end Sys2Proof.Laws.RowBits
end

