-- ==== Sys2Proof/Laws/Tick.lean ====
section
/-! SUPPORT. What a tick and a move leave alone, and when the block's own step is a tick, a move of the poll agent or a move
of the UI agent. -/

namespace Sys2Proof.Laws

open Sys2Proof.Machine

/-! ### Ticks -/

/-- The transmitter's tick: nothing when idle, the next tick of a bit, the next bit, or the end (R200). -/
theorem utxTick_cases (c : Cfg) (u : Utx) (txd : Bool) :
    (u.busy = false ∧ utxTick c u txd = (u, txd)) ∨
    (u.busy = true ∧ u.tickcnt + 1 < c.bitTicks ∧ utxTick c u txd = ({ u with tickcnt := u.tickcnt + 1 }, txd)) ∨
    (u.busy = true ∧ c.bitTicks ≤ u.tickcnt + 1 ∧ u.bitcnt + 1 < charBits c ∧ utxTick c u txd =
      ({ u with shift := u.shift >>> 1, bitcnt := u.bitcnt + 1, tickcnt := 0 }, (u.shift >>> 1).getLsbD 0)) ∨
    (u.busy = true ∧ c.bitTicks ≤ u.tickcnt + 1 ∧ charBits c ≤ u.bitcnt + 1 ∧ utxTick c u txd = (utxOff, true)) := by
  unfold utxTick
  cases h : u.busy
  · simp
  · by_cases h1 : u.tickcnt + 1 < c.bitTicks
    · simp [h1]
    · by_cases h2 : u.bitcnt + 1 < charBits c
      · simp [h1, h2]; omega
      · simp [h1, h2]; omega

theorem uartTick_frame (rxd : Bool) (s : State) : SendFrame s (uartTick rxd s) :=
  ⟨⟨⟨rfl, rfl, rfl, rfl, rfl, rfl, rfl, List.tail_suffix _, rfl⟩, rfl, rfl, rfl, rfl, rfl⟩, rfl, rfl⟩

theorem receptionTick_frame (before : State) (item : Option LinkItem) (s : State) :
    LinkFrame s (receptionTick before item s) := by
  unfold receptionTick
  split
  · exact linkFrame_refl s
  · dsimp only
    split
    · exact ⟨⟨rfl, rfl, rfl, rfl, rfl, rfl, rfl, List.suffix_rfl, rfl⟩, rfl, rfl, rfl, rfl, rfl⟩
    · exact (setTr_frame _ _).toLinkFrame
    · exact (setTr_frame _ _).toLinkFrame

/-- What a tick of a reception under way does with a character that ended in it, or with none (R199, R203). -/
theorem receptionTick_cases {before : State} (h : receptionOver before = false) (item : Option LinkItem) (s : State) :
    (∃ d, item = some (.byte d) ∧ (receptionTick before item s).rx = Memory.write s.rx s.rxlen d ∧
      (receptionTick before item s).rxlen = s.rxlen + 1 ∧ (receptionTick before item s).tr =
        { s.tr with timeoutCnt := s.tr.timeoutCnt + 1, silenceCnt := 0 }) ∨
    (item = some .error ∧ receptionTick before item s =
      s.setTr { s.tr with timeoutCnt := s.tr.timeoutCnt + 1, silenceCnt := 0, ioErr := true }) ∨
    (item = none ∧ ∃ c, receptionTick before item s =
      s.setTr { s.tr with timeoutCnt := s.tr.timeoutCnt + 1, silenceCnt := c } ∧
        (c = s.tr.silenceCnt ∨ c = min (t35Ticks s.cfg) (s.tr.silenceCnt + 1))) := by
  unfold receptionTick
  rw [h]
  match item with
  | some (.byte d) => exact Or.inl ⟨d, rfl, rfl, rfl, rfl⟩
  | some .error => exact Or.inr (Or.inl ⟨rfl, rfl⟩)
  | none => exact Or.inr (Or.inr ⟨rfl, _, rfl, by split <;> simp⟩)

theorem transportTick_frame (before : State) (item : Option LinkItem) (s : State) :
    LinkFrame s (transportTick before item s) := by
  unfold transportTick
  split
  · exact (setTr_frame _ _).toLinkFrame
  · exact (setTr_frame _ _).toLinkFrame
  · split
    · exact linkFrame_refl s
    · exact (releaseDir_frame s).toLinkFrame
  · exact receptionTick_frame _ _ _
  all_goals exact linkFrame_refl s

/-- The time, the master's counters and the end of the pulse are no part of a poll frame. -/
theorem counted_frame (u : State) (n : BitVec 64) (m : Mst) : PollFrame u (((u.setNow n).setMst m).setPollDone false) :=
  ⟨rfl, rfl, rfl, rfl, rfl, rfl, rfl, List.suffix_rfl, rfl⟩

/-- A tick leaves the configuration, the slot, the report and the UI agent's elements alone. -/
theorem tickWith_frame (rxd : Bool) (s : State) : PollFrame s (tickWith rxd s) :=
  pollFrame_trans (uartTick_frame rxd s).toPollFrame
    (pollFrame_trans (counted_frame _ _ _) (transportTick_frame s _ _).toPollFrame)

theorem lineTicks_frame (n : Nat) (s : State) : PollFrame s (lineTicks n s) := by
  induction n generalizing s with
  | zero => exact pollFrame_refl s
  | succ n ih => exact pollFrame_trans (tickWith_frame _ s) (ih _)

theorem levelsOnLine_frame (levels : List Bool) (s : State) : PollFrame s (levelsOnLine levels s) :=
  let ls := levels.flatMap (List.replicate s.cfg.bitTicks)
  pollFrame_trans (t := s.setEnv { s.env with line := ls ++ s.env.line.drop ls.length })
    ⟨rfl, rfl, rfl, rfl, rfl, rfl, rfl, List.suffix_rfl, rfl⟩ (lineTicks_frame _ _)

theorem frameOnLine_frame (bytes : List Byte) (s : State) : PollFrame s (frameOnLine bytes s) := levelsOnLine_frame _ s

/-! ### `rst` (R400) -/

/-- A word none of whose ticks meets `rst` at 1 has its whole effect. -/
theorem cutByRst_quiet {s : State} (h : s.env.rstNext = []) (o : Host.Outcome State Fault Refusal) : cutByRst s o = o := by
  cases o <;> simp [cutByRst, sampledRst, h]

/-- A word has its whole effect, or the block is reset on the first of its ticks with `rst` at 1. -/
theorem cutByRst_next (s t : State) :
    ((∀ r ∈ sampledRst s t, r = false) ∧ cutByRst s (.next t) = .next t) ∨
    (∃ r ∈ sampledRst s t, r = true ∧ ∃ k, cutByRst s (.next t) =
      .next (State.resetOf s.cfg { s.env with line := s.env.line.drop k, rstNext := s.env.rstNext.drop k })) := by
  by_cases h : (sampledRst s t).any id = true
  · obtain ⟨r, hr, h1⟩ := List.any_eq_true.1 h
    exact Or.inr ⟨r, hr, h1, _, by simp only [cutByRst, h, if_true]; rfl⟩
  · refine Or.inl ⟨fun r hr => ?_, by simp [cutByRst, h]⟩
    cases r
    · rfl
    · exact absurd (List.any_eq_true.2 ⟨true, hr, rfl⟩) h

/-! ### Whose move it is -/

/-- The block's own step: a tick when no agent can move, otherwise a move of one of them (R361, R368). -/
theorem autoStep_cases (s : State) :
    (pollMove s = none ∧ s.ui.due = false ∧ autoStep s = .next (tick s)) ∨
    (pollMove s = none ∧ s.ui.due = true ∧ autoStep s = .next (uiMove s)) ∨
    (∃ o, pollMove s = some o ∧ s.ui.due = false ∧ autoStep s = o) ∨
    (∃ o, pollMove s = some o ∧ s.ui.due = true ∧ uiGoesFirst s = true ∧ autoStep s = .next (uiMove (dropDraw s))) ∨
    (∃ o, pollMove s = some o ∧ s.ui.due = true ∧ uiGoesFirst s = false ∧
      autoStep s = (pollMove (dropDraw s)).getD (.next (uiMove (dropDraw s)))) := by
  unfold autoStep
  cases h : pollMove s with
  | none => cases hd : s.ui.due <;> simp
  | some o =>
    cases hd : s.ui.due
    · simp
    · cases hf : uiGoesFirst s <;> simp

/-- An attempt begins: its transaction is held back while the one before it is DONE, otherwise it begins as well. -/
theorem beginAttempt_cases (s : State) :
    (s.tr.phase = .done ∧ beginAttempt s = s.setMst { s.mst with held := true }) ∨
    (s.tr.phase ≠ .done ∧ beginAttempt s = startTransaction s) := by
  unfold beginAttempt; split <;> simp_all

theorem startTransaction_frame (s : State) : PollFrame s (startTransaction s) :=
  pollFrame_trans (enterPhase_frame s .gap).toPollFrame (setMst_frame _ _)

theorem beginAttempt_frame (s : State) : PollFrame s (beginAttempt s) := by
  unfold beginAttempt; split
  · exact setMst_frame s _
  · exact startTransaction_frame s

/-- The moves of a poll agent whose transaction is under way (R191). -/
theorem transactMove_cases (s : State) {o : Host.Outcome State Fault Refusal} (h : transactMove s = some o) :
    (s.tr.phase = .idle ∧ o = .next (startTransaction s)) ∨
    (s.tr.phase = .gap ∧ t35Ticks s.cfg ≤ s.tr.idleCnt ∧ o = .next (assertDir s)) ∨
    (s.tr.phase = .tx ∧ s.utx.busy = false ∧ 8 ≤ s.tr.txidx ∧ o = .next (s.enterPhase .flush)) ∨
    (∃ d, s.tr.phase = .tx ∧ s.utx.busy = false ∧ s.tr.txidx < 8 ∧ txByte s = some d ∧ o = .next (handByte d s)) ∨
    (s.tr.phase = .tx ∧ s.utx.busy = false ∧ s.tr.txidx < 8 ∧ txByte s = none ∧ o = .fault (.noValue .txbuf)) ∨
    (s.tr.phase = .turn ∧ s.cfg.turnaround ≤ s.tr.turnCnt ∧ o = .next (receiveEnable s)) ∨
    (s.tr.phase = .rx ∧ receptionOver s = true ∧ o = .next (s.enterPhase .done)) ∨
    (s.tr.phase = .done ∧ s.mst.held = false ∧ o = takeResult s) := by
  unfold transactMove at h
  cases hp : s.tr.phase <;> simp only [hp] at h
  · cases h; simp
  · split at h
    · cases h; simp_all
    · cases h
  · split at h
    · cases h
    · rename_i hb
      split at h
      · cases h; simp_all
      · rename_i h8
        split at h
        · cases h; rename_i d hd; simp_all
        · cases h; rename_i hd; simp_all
  · cases h
  · split at h
    · cases h; simp_all
    · cases h
  · split at h
    · rename_i hb; cases h; simp [hb]
    · cases h
  · split at h <;> cases h; simp_all

/-- The moves of the poll agent, phase by phase (R37, R242, R248). -/
theorem pollMove_cases (s : State) {o : Host.Outcome State Fault Refusal} (h : pollMove s = some o) :
    (s.mst.phase = .wait ∧ s.cfg.pollInterval ≤ s.mst.intervalCnt ∧ o = .next (startCycle s)) ∨
    (s.mst.phase = .encode ∧ o = .next (encodeMove s)) ∨
    (s.mst.phase = .transact ∧ transactMove s = some o) ∨
    (s.mst.phase = .decode ∧ o = decodeMove s) ∨
    (s.mst.phase = .backoff ∧ s.cfg.backoff ≤ s.mst.backoffCnt ∧ o = .next (beginAttempt (returnFromError s))) ∨
    (s.mst.phase = .convert ∧ o = convertMove s) ∨
    (s.mst.phase = .report ∧ o = .next (reportPoll s)) := by
  unfold pollMove at h
  cases hp : s.mst.phase <;> simp only [hp] at h
  case wait => split at h <;> cases h; simp_all
  case encode => cases h; simp
  case transact => simp [h]
  case decode => cases h; simp
  case backoff => split at h <;> cases h; simp_all
  case convert => cases h; simp
  case report => cases h; simp

end Sys2Proof.Laws
end

