-- ==== Sys2Proof/Tests/Slice0.lean ====
section
/-! SUPPORT. Tests: ill-formed terms refused, one word of each row decoded, one-step checks against 95_test_vectors.md, and
witnesses for the hypotheses of the statements. Words and results are written out from the spec, not taken from the model. -/

-- One theorem after another: each `decide +kernel` waits for the kernel, and many waiting at once are many threads.
set_option Elab.async false

namespace Sys2Proof.Tests

open Sys2Proof.Machine

/-! ### Helpers -/

/-- A property of the next state; false of a stop. -/
def nextIs (o : Host.Outcome State Fault Refusal) (p : State → Bool) : Bool :=
  match o with
  | .next t => p t
  | .fault _ => false
  | .refused _ => false

/-- The next state, for use in a `∃`. -/
theorem exists_of_nextIs {o : Host.Outcome State Fault Refusal} {p : State → Bool} (h : nextIs o p = true) :
    ∃ t, o = .next t ∧ p t = true := by
  cases o with
  | next t => exact ⟨t, rfl, h⟩
  | fault e => cases h
  | refused e => cases h

/-- The reset state with these answers of the link oracle to come. -/
def answering (as : List Answer) : State := { State.reset with env := { Env.quiet with answers := as } }

/-- The response of V-DEC-1. -/
def goodFrame : List Byte := [0x01, 0x03, 0x04, 0x09, 0x29, 0x00, 0x7B, 0x68, 0x44]

/-- The reset state with the request of V-ENC-1 in `TX`. -/
def withRequest : State :=
  { State.reset with
    tx := [(0, 0x01), (1, 0x03), (2, 0x00), (3, 0x00), (4, 0x00), (5, 0x02), (6, 0xC4), (7, 0x0B)] }

/-- The reset state with a decoded frame in `regframe`. -/
def withFrame (f : List U16) : State := { State.reset with regframe := f, regframeValid := true }

/-- The reset state listening, from receive-enable on, with this waveform on the line. -/
def listening (c : Cfg) (line : List Bool) : State :=
  { State.reset with
    cfg := c, urx := urxOn, tr := { State.reset.tr with phase := .rx, maxLen := 9 }, env := { Env.quiet with line := line } }

/-- A reception between its first character, 0x01 with even parity, and the next. -/
def betweenChars : State :=
  { State.reset with
    urx := { urxOn with shift := 0x602 }, tr := { State.reset.tr with phase := .rx, maxLen := 9, timeoutCnt := 11 }
    rx := [(0, 0x01)], rxlen := 1 }

/-- The default configuration in another character layout. -/
def layout (p : Parity) (stop : Nat) : Cfg := { Cfg.vectorDefault with parity := p, stopBits := stop }

/-- The reset state in mode `m`. -/
def inMode (m : DisplayMode) : State := { State.reset with disp := { mode := m, dwell := 0 } }

/-- A state in a phase of the master. -/
def inPhase (p : MstPhase) (s : State) : State := { s with mst := { s.mst with phase := p } }

/-- Pins 1 and 3 of the default pin map have been pressed for two samples. -/
def pressed : List (Nat × PinState) := [(0, ⟨false, 0⟩), (1, ⟨false, 2⟩), (2, ⟨false, 0⟩), (3, ⟨false, 2⟩)]

/-- The default configuration with one field changed in turn so that a constraint of R8, R13, R241 or R311 breaks. -/
def brokenCfgs : List Cfg :=
  let c := Cfg.vectorDefault
  [{ c with bitTicks := 0 }, { c with stopBits := 0 }, { c with stopBits := 3 }, { c with byteSize := 7 },
    { c with slaveId := 0 }, { c with slaveId := 248 }, { c with count := 0 }, { c with count := 126 },
    { c with maxCount := 126 }, { c with startReg := 0xFFFF }, { c with vIdx := 2 }, { c with iIdx := 2 },
    { c with pollInterval := 0 }, { c with respTimeout := 0 }, { c with uiTickTicks := 0 }] ++
  [{ c with nPin := 5 }, { c with nMedia := 0, pinmap := [.sensor, .unmapped, .unmapped, .unmapped] }, { c with nMedia := 2 },
    { c with pinmap := [.sensor, .media 1, .media 2, .sensor] }, { c with debounceN := 0 }, { c with blinkN := 0 },
    { c with startupN := 0 }]

/-! ### Well-formedness -/

theorem test_wf_decResp_buffer : Instr.wf (.decResp (List.replicate 256 0) 1 2) = false := by decide +kernel
theorem test_wf_transact_request : Instr.wf (.trTransact (List.replicate 7 0) 9) = false := by decide
theorem test_wf_transact_low : Instr.wf (.trTransact (List.replicate 8 0) 4) = false := by decide
theorem test_wf_transact_high : Instr.wf (.trTransact (List.replicate 8 0) 256) = false := by decide
theorem test_wf_publish_low : Instr.wf (.spPublish ⟨.rational (-(2 ^ 63 + 1)), .coded 0, .coded 0, 0⟩ true) = false := by
  decide +kernel
theorem test_wf_publish_high : Instr.wf (.spPublish ⟨.coded 0, .rational (2 ^ 63), .coded 0, 0⟩ true) = false := by
  decide +kernel
theorem test_wf_publish_den : Instr.wf (.spPublish ⟨.coded 0, .coded 0, .rational (1 / (2 ^ 64 + 1)), 0⟩ true) = false := by
  decide +kernel
theorem test_wf_publish_code : Instr.wf (.spPublish ⟨.coded (2 ^ 128), .coded 0, .coded 0, 0⟩ true) = false := by decide
theorem test_wf_sample_pin : Instr.wf (.dbSample 65536 true) = false := by decide
theorem test_wf_uiTick_levels : Instr.wf (.uiTick (List.replicate 256 true)) = false := by decide +kernel
theorem test_wf_media_index : Instr.wf (.dsmBtnMedia 65536) = false := by decide
theorem test_wf_response_empty : Instr.wf (.rsp 1 3 [] 0 0) = false := by decide
theorem test_wf_response_long : Instr.wf (.rsp 1 3 (List.replicate 126 0) 0 0) = false := by decide +kernel
theorem test_cfg_default : cfgWf Cfg.vectorDefault = true := by decide
theorem test_cfg_broken : brokenCfgs.all (fun c => !cfgWf c) = true := by decide

/-! ### Decoding: one word of every row, written out from R110, R92, R93, R94, R96 -/

theorem test_decode_reset : decode (.op [0x00]) = .ok .reset := by rfl
theorem test_decode_crcInit : decode (.op [0x01]) = .ok .crcInit := by rfl
theorem test_decode_crcBit : decode (.op [0x02, 0x01]) = .ok (.crcBit true) := by rfl
theorem test_decode_crcUpd : decode (.op [0x03, 0x7B]) = .ok (.crcUpd 0x7B) := by rfl
theorem test_decode_crcGet : decode (.op [0x04]) = .ok .crcGet := by rfl
theorem test_decode_crcChk : decode (.op [0x05, 0x68, 0x44]) = .ok (.crcChk 0x68 0x44) := by rfl
theorem test_decode_encRdreq : decode (.op [0x10, 0x11, 0x00, 0x6B, 0x00, 0x03]) = .ok (.encRdreq 0x11 0x006B 3) := by
  rfl
theorem test_decode_decResp :
    decode (.op [0x11, 0x01, 0x00, 0x02, 0x05, 0x01, 0x83, 0x02, 0xC0, 0xF1]) =
      .ok (.decResp [0x01, 0x83, 0x02, 0xC0, 0xF1] 0x01 2) := by rfl
theorem test_decode_trTransact :
    decode (.op [0x20, 0x04, 0x01, 0x03, 0x00, 0x00, 0x00, 0x02, 0xC4, 0x0B]) =
      .ok (.trTransact [0x01, 0x03, 0x00, 0x00, 0x00, 0x02, 0xC4, 0x0B] 9) := by rfl
theorem test_decode_trGap : decode (.op [0x21]) = .ok .trGap := by rfl
theorem test_decode_trTxen : decode (.op [0x22]) = .ok .trTxen := by rfl
theorem test_decode_trWrite : decode (.op [0x23]) = .ok .trWrite := by rfl
theorem test_decode_trFlush : decode (.op [0x24]) = .ok .trFlush := by rfl
theorem test_decode_trRxen : decode (.op [0x25]) = .ok .trRxen := by rfl
theorem test_decode_trRead : decode (.op [0x26]) = .ok .trRead := by rfl
theorem test_decode_uartTxchar : decode (.op [0x27, 0xC4]) = .ok (.uartTxchar 0xC4) := by rfl
theorem test_decode_uartRxchar : decode (.op [0x28]) = .ok .uartRxchar := by rfl
theorem test_decode_mstPoll : decode (.op [0x30, 0x00, 0x00, 0x00, 0x00, 0x01]) = .ok (.mstPoll 1 0 2) := by rfl
theorem test_decode_mstCycle : decode (.op [0x31]) = .ok .mstCycle := by rfl
theorem test_decode_spConvert : decode (.op [0x40]) = .ok (.spConvert .regframe) := by rfl
theorem test_decode_spPublish :
    (match decode (.op ([0x41, 0x01, 0, 0, 0, 0, 0, 0, 0, 0x07] ++
      [0, 0, 0, 0, 0, 0, 0, 0x01, 0xD5, 0, 0, 0, 0, 0, 0, 0, 0x01] ++
      [0, 0xFF, 0xFF, 0xFF, 0xFF, 0xFF, 0xFF, 0xFF, 0xFF, 0, 0, 0, 0, 0, 0, 0, 0x63] ++
      [1, 0, 0, 0, 0, 0, 0, 0, 0, 0, 0, 0, 0, 0, 0, 0, 0x05])) with
      | .ok i => i == .spPublish ⟨.rational (469 / 2), .rational (-1 / 100), .coded 5, 7⟩ true
      | .error _ => false) = true := by decide +kernel
theorem test_decode_dbSample : decode (.op [0x50, 0x00, 0x03, 0x01]) = .ok (.dbSample 3 true) := by rfl
theorem test_decode_uiTick : decode (.op [0x60, 0x04, 0, 1, 0, 0]) = .ok (.uiTick [false, true, false, false]) := by rfl
theorem test_decode_dsmTick : decode (.op [0x61]) = .ok .dsmTick := by rfl
theorem test_decode_dsmBtnMedia : decode (.op [0x62, 0x00, 0x02]) = .ok (.dsmBtnMedia 2) := by rfl
theorem test_decode_dsmBtnSensor : decode (.op [0x63]) = .ok .dsmBtnSensor := by rfl
theorem test_decode_dsmMeas : decode (.op [0x64]) = .ok .dsmMeas := by rfl
theorem test_decode_blkTick : decode (.op [0x65, 0x01]) = .ok (.blkTick true) := by rfl
theorem test_decode_req : decode (.frame [0x11, 0x03, 0x00, 0x6B, 0x00, 0x03, 0x76, 0x87]) =
    .ok (.req 0x11 0x006B 0x0003 0x76 0x87) := by rfl
theorem test_decode_rsp : decode (.frame goodFrame) = .ok (.rsp 0x01 0x03 [0x0929, 0x007B] 0x68 0x44) := by rfl
theorem test_decode_exc : decode (.frame [0x01, 0x83, 0x02, 0xC0, 0xF1]) = .ok (.exc 0x01 0x03 0x02 0xC0 0xF1) := by rfl
theorem test_decode_char8N1 :
    decode (.char .n1 [false, true, true, false, false, false, false, false, false, true]) = .ok (.char8N1 0x03) := by rfl
theorem test_decode_char8P1 :
    decode (.char .p1 [false, false, false, true, false, false, false, true, true, true, true]) =
      .ok (.char8P1 0xC4 true) := by rfl
theorem test_decode_char8N2 :
    decode (.char .n2 [false, true, true, true, true, true, true, true, true, true, true]) = .ok (.char8N2 0xFF) := by rfl
theorem test_decode_char8P2 :
    decode (.char .p2 [false, true, false, false, false, false, false, false, false, true, true, true]) =
      .ok (.char8P2 0x01 true) := by rfl

theorem test_decode_unassigned : decode (.op [0x66]) = .error (.unassignedOp 0x66) := by rfl
theorem test_decode_trailing : decode (.op [0x01, 0x01]) = .error .trailingBytes := by rfl
theorem test_decode_bool : decode (.op [0x02, 0x02]) = .error .badOperand := by rfl
theorem test_decode_length : decode (.frame [0x01, 0x03, 0x02, 0x00]) = .error .badFrameLength := by rfl
theorem test_decode_byteCount : decode (.frame [0x01, 0x03, 0x04, 0x00, 0x01, 0x79, 0x84]) = .error .badByteCount := by rfl
theorem test_decode_startBit :
    decode (.char .n1 [true, true, true, false, false, false, false, false, false, true]) = .error .badStartBit := by rfl
theorem test_decode_stopBit :
    decode (.char .n1 [false, true, true, false, false, false, false, false, false, false]) = .error .badStopBit := by rfl

/-! ### One step of each instruction (95_test_vectors.md) -/

theorem test_reset : nextIs (exec .reset { withRequest with crc := 1, dirState := true })
    (fun t => t == State.reset) = true := by decide +kernel
theorem test_crcInit : nextIs (exec .crcInit { State.reset with crc := 7 }) (fun t => t.crc == 0xFFFF) = true := by decide
/-- R133: from 0x7FFF with bit 0 to 0x9FFE. -/
theorem test_crcBit : nextIs (exec (.crcBit false) { State.reset with crc := 0x7FFF }) (fun t => t.crc == 0x9FFE) = true := by
  decide
/-- V-CRC-15. -/
theorem test_crcUpd : nextIs (exec (.crcUpd 0x01) State.reset) (fun t => t.crc == 0x807E) = true := by decide
/-- V-CRC-1. -/
theorem test_crc_check_value :
    crc16 [0x31, 0x32, 0x33, 0x34, 0x35, 0x36, 0x37, 0x38, 0x39] = 0x4B37 := by decide +kernel
/-- R135. -/
theorem test_crcGet : nextIs (exec .crcGet { State.reset with crc := 0x0BC4 })
    (fun t => t.res == .trailer 0xC4 0x0B && t.crc == 0x0BC4) = true := by decide
/-- V-CRC-17. -/
theorem test_crcChk : nextIs (exec (.crcChk 0x68 0x44) { State.reset with crc := 0x4468 })
    (fun t => t.res == .check true) = true := by decide
theorem test_crcChk_swapped : nextIs (exec (.crcChk 0x44 0x68) { State.reset with crc := 0x4468 })
    (fun t => t.res == .check false) = true := by decide
/-- V-ENC-2. -/
theorem test_encRdreq : nextIs (exec (.encRdreq 0x11 0x006B 3) State.reset)
    (fun t => t.res == .bytes [0x11, 0x03, 0x00, 0x6B, 0x00, 0x03, 0x76, 0x87] && t.crc == 0x8776 &&
      Memory.read t.tx 7 == some 0x87) = true := by decide +kernel
/-- V-DEC-1. -/
theorem test_decResp : nextIs (exec (.decResp goodFrame 1 2) State.reset)
    (fun t => t.res == .decoded (.ok [2345, 123]) && t.regframeValid && t.crc == 0x4468) = true := by decide +kernel
/-- V-TR-1 through the whole transaction, with P1's 277 ticks. -/
theorem test_trTransact :
    nextIs (exec (.trTransact [0x01, 0x03, 0x00, 0x00, 0x00, 0x02, 0xC4, 0x0B] 9) (answering [answerOf 50 goodFrame]))
      (fun t => t.res == .transport (.ok goodFrame) && t.now == 277 && t.rxlen == 9 && !t.dirState &&
        t.tr.phase == .done) = true := by
  decide +kernel
/-- R193's example: 10 of 39 idle ticks are over, 29 are left. -/
theorem test_trGap : nextIs (exec .trGap { State.reset with tr := { State.reset.tr with idleCnt := 10 } })
    (fun t => t.now == 29 && t.tr.phase == .gap) = true := by decide +kernel
theorem test_trTxen : nextIs (exec .trTxen State.reset) (fun t => t.dirState && t.tr.phase == .tx && dirPort t) = true := by
  decide
/-- V-TR-16: eight characters take 88 ticks, the first is V-CH-1. -/
theorem test_trWrite : nextIs (exec .trWrite withRequest)
    (fun t => t.now == 88 && t.tr.txidx == 8 && t.env.txdLog.length == 88 &&
      t.env.txdLog.take 11 == [false, true, false, false, false, false, false, false, false, true, true]) = true := by
  decide +kernel
theorem test_trWrite_nothing : exec .trWrite State.reset = .fault (.noValue .txbuf) := by rfl
/-- R196: what a busy transmitter still has to send. -/
theorem test_trFlush : nextIs (exec .trFlush (loadChar 0xC4 State.reset))
    (fun t => !t.utx.busy && t.now == 11 && t.uartTxd &&
      t.env.txdLog == [false, false, false, true, false, false, false, true, true, true, true]) = true := by decide +kernel
/-- R197, R198: the direction one tick later, then receive-enable. -/
theorem test_trRxen : nextIs (exec .trRxen { State.reset with dirState := true })
    (fun t => !t.dirState && t.now == 1 && t.urx.enable && t.rxlen == 0) = true := by decide +kernel
/-- V-TR-7: eight bytes stored, the error wins. -/
theorem test_trRead :
    nextIs (exec .trRead (listening Cfg.vectorDefault (renderAnswer Cfg.vectorDefault
      ([(50, .byte 0x01), (0, .byte 0x03), (0, .byte 0x04), (0, .error), (0, .byte 0x29), (0, .byte 0x00), (0, .byte 0x7B),
        (0, .byte 0x68), (0, .byte 0x44)] : Answer))))
      (fun t => t.res == .transport (.err .ioFailure) && t.rxlen == 8 && t.now == 188) = true := by decide +kernel
theorem test_trRead_idle : exec .trRead State.reset = .fault (.noValue .maxLen) := by rfl
/-- V-CH-2. -/
theorem test_uartTxchar : nextIs (exec (.uartTxchar 0xC4) State.reset)
    (fun t => t.env.txdLog == [false, false, false, true, false, false, false, true, true, true, true] && t.now == 11) =
    true := by decide +kernel
/-- V-CH-1 on the line, and with its parity bit wrong. -/
theorem test_uartRxchar : nextIs (exec .uartRxchar (listening Cfg.vectorDefault
      [true, false, true, false, false, false, false, false, false, false, true, true]))
    (fun t => t.res == .character (some (.byte 0x01)) && t.now == 12) = true := by decide +kernel
theorem test_uartRxchar_parity : nextIs (exec .uartRxchar (listening Cfg.vectorDefault
      [false, true, false, false, false, false, false, false, false, false, true]))
    (fun t => t.res == .character (some .error)) = true := by decide +kernel
/-- V-MST-3. -/
theorem test_mstPoll : nextIs (exec (.mstPoll 1 0 2) (answering [answerOf 50 [0x01, 0x83, 0x02, 0xC0, 0xF1]]))
    (fun t => t.res == .poll (.err .protocolFault) && t.mst.attempt == 0) = true := by decide +kernel
theorem test_mstPoll_invalid : exec (.mstPoll 248 0 2) State.reset = .refused .invalidPollOperands := by rfl
/-- P1. -/
theorem test_mstCycle : nextIs (exec .mstCycle (answering [answerOf 50 goodFrame]))
    (fun t => t.pollStatus == 0 && t.pollDone && t.crc == 0x4468 && t.snap ==
      { valid := true, voltage := .rational (469 / 2), current := .rational (123 / 100), power := .rational (57687 / 200),
        timestamp := 277, alert := true }) = true := by decide +kernel
/-- P3: a rejected poll reports 2. -/
theorem test_mstCycle_rejected : nextIs (exec .mstCycle (answering [answerOf 50 [0x01, 0x83, 0x02, 0xC0, 0xF1]]))
    (fun t => t.pollStatus == 2 && t.pollDone && !t.snap.valid && t.mst.attempt == 0 && t.rxlen == 5) = true := by
  decide +kernel
/-- V-SP-1. -/
theorem test_spConvert : nextIs (exec (.spConvert .regframe) { withFrame [2345, 123] with now := 9 })
    (fun t => !t.regframeValid && t.res == .measurement
      ⟨.rational (469 / 2), .rational (123 / 100), .rational (57687 / 200), 9⟩ true) = true := by decide +kernel
/-- R24, D44: no valid frame. -/
theorem test_spConvert_nothing : exec (.spConvert .regframe) State.reset = .fault (.noValue .regframe) := by rfl
theorem test_spPublish : nextIs (exec (.spPublish ⟨.rational 1, .rational 2, .rational 3, 4⟩ true) State.reset)
    (fun t => t.snap == ⟨true, .rational 1, .rational 2, .rational 3, 4, true⟩) = true := by decide +kernel
/-- V-DB-3, sample 3. -/
theorem test_dbSample : nextIs (exec (.dbSample 1 true) { State.reset with db := [(0, ⟨false, 0⟩), (1, ⟨false, 2⟩)] })
    (fun t => t.db == [(0, ⟨false, 0⟩), (1, ⟨true, 0⟩)] && t.res == .event (some 1)) = true := by decide +kernel
/-- V-DSM-5: events of pins 0 and 3 in one tick give Sensor. -/
theorem test_uiTick :
    nextIs (exec (.uiTick [true, false, false, true])
      { State.reset with db := [(0, ⟨false, 2⟩), (1, ⟨false, 0⟩), (2, ⟨false, 0⟩), (3, ⟨false, 2⟩)] })
      (fun t => t.disp.mode == .sensor && t.out.mode == .sensor && t.disp.dwell == 0) = true := by decide +kernel
/-- V-DSM-1, tick 4. -/
theorem test_dsmTick : nextIs (exec .dsmTick { State.reset with disp := { mode := .startup 0, dwell := 3 } })
    (fun t => t.disp == { mode := .startup 1, dwell := 0 }) = true := by decide
theorem test_dsmBtnMedia : nextIs (exec (.dsmBtnMedia 2) (inMode .sensor)) (fun t => t.disp.mode == .media 2) = true := by
  decide
theorem test_dsmBtnMedia_range : exec (.dsmBtnMedia 3) State.reset = .refused .mediaIndexOutOfRange := by rfl
theorem test_dsmBtnSensor : nextIs (exec .dsmBtnSensor (inMode (.media 2))) (fun t => t.disp.mode == .sensor) = true := by
  decide
theorem test_dsmMeas : nextIs (exec .dsmMeas { State.reset with snap := ⟨true, .coded 1, .coded 2, .coded 3, 4, false⟩ })
    (fun t => t.out.meas == some ⟨.coded 1, .coded 2, .coded 3, 4⟩ && t.res == .none) = true := by decide +kernel
/-- V-BLK-1, tick 5. -/
theorem test_blkTick : nextIs (exec (.blkTick true) { State.reset with blink := ⟨true, 1, true⟩ })
    (fun t => t.blink == ⟨false, 0, true⟩) = true := by decide
/-- R210: eight characters of 11 ticks, the direction asserted; `TX` is not written. -/
theorem test_req : nextIs (exec (.req 1 0 2 0xC4 0x0B) State.reset)
    (fun t => t.dirState && t.now == 88 && t.env.txdLog.length == 88 && t.tx == [] &&
      t.env.txdLog.take 11 == [false, true, false, false, false, false, false, false, false, true, true]) = true := by
  decide +kernel
/-- V-TR-1's response in a reception, 9 characters of 11 ticks, and with the receiver off (R63, R208). -/
theorem test_rsp : nextIs (exec (.rsp 1 3 [2345, 123] 0x68 0x44) (listening Cfg.vectorDefault []))
    (fun t => t.rxlen == 9 && Memory.read t.rx 3 == some 0x09 && t.now == 99) = true := by decide +kernel
theorem test_exc_off : nextIs (exec (.exc 1 3 2 0xC0 0xF1) State.reset) (fun t => t.rxlen == 0 && t.now == 55) = true := by
  decide +kernel
theorem test_char8N1 : nextIs (exec (.char8N1 0x03) (listening (layout .none 1) []))
    (fun t => Memory.read t.rx 0 == some 0x03 && t.now == 10) = true := by decide +kernel
theorem test_char8P1 : nextIs (exec (.char8P1 0xC4 true) (listening (layout .even 1) []))
    (fun t => Memory.read t.rx 0 == some 0xC4 && t.now == 11) = true := by decide +kernel
/-- R199: a character that begins after a complete silence is not received. -/
theorem test_char8P1_late : nextIs (exec (.char8P1 0xC4 true)
      { betweenChars with tr := { betweenChars.tr with silenceCnt := 39, timeoutCnt := 50 } })
    (fun t => t.rxlen == 1 && !t.tr.ioErr && receptionOver t) = true := by decide +kernel
/-- R199, R360: a complete silence stays complete over a UART.RXCHAR. -/
theorem test_uartRxchar_late : nextIs (exec .uartRxchar
      { betweenChars with
        tr := { betweenChars.tr with silenceCnt := 39, timeoutCnt := 50 }
        env := { betweenChars.env with line := renderAnswer betweenChars.cfg [(0, .byte 0x01)] } })
    (fun t => t.res == .character (some (.byte 0x01)) && t.rxlen == 1 && receptionOver t) = true := by decide +kernel
theorem test_char8N2 : nextIs (exec (.char8N2 0xFF) (listening (layout .none 2) []))
    (fun t => Memory.read t.rx 0 == some 0xFF && t.now == 11) = true := by decide +kernel
theorem test_char8P2 : nextIs (exec (.char8P2 0x01 true) (listening (layout .odd 2) []))
    (fun t => t.rxlen == 0 && t.tr.ioErr && t.now == 12) = true := by decide +kernel

/-- The block's own first move after reset is the start of a cycle (R403). -/
theorem test_step_starts : nextIs (step State.reset) (fun t => t.mst.phase == .encode && t.now == 0) = true := by
  decide +kernel
/-- R245 with `BACKOFF_TICKS` = 0: no tick in BACKOFF; R191: the tick of DONE comes before the next GAP. -/
theorem test_backoff_zero :
    let s := inPhase .backoff { withRequest with
      cfg := { Cfg.vectorDefault with backoff := 0 }, tr := { State.reset.tr with phase := .done } }
    nextIs (runSteps 1 s) (fun t => t.now == 0 && t.mst.phase == .transact && t.tr.phase == .done) = true ∧
      nextIs (runSteps 3 s) (fun t => t.now == 1 && t.mst.phase == .transact && t.tr.phase == .gap) = true := by
  decide +kernel
/-- A presented table word runs as the first instruction after reset. -/
theorem test_step_word : nextIs (step (State.reset.withFetchWord 8 0x31)) (fun t => t.pollDone && t.env.pend == []) = true := by
  decide +kernel
/-- R400: `rst` in the third tick of a presented word. -/
theorem test_step_rst :
    nextIs (step { presentWord (.op [0x27, 0xC4]) State.reset with
        env := { Env.quiet with pend := [.op [0x27, 0xC4]], rstNext := [false, false, true, true] } })
      (fun t => t == { State.reset with env := { Env.quiet with rstNext := [true] } }) = true := by decide +kernel
/-- R201, R199: a glitch of one tick, found at the middle of its bit time, delays no end by silence: the silence of 39 bit times
of 4 ticks begins at the end of the character. -/
theorem test_glitch_silence :
    let c := { layout .even 1 with bitTicks := 4 }
    let s := listening c (renderAnswer c ([(0, .byte 0x01)] : Answer) ++ List.replicate (t35Ticks c - 2) true ++ [false])
    (reception 9 s).endTick = charTicks c + t35Ticks c ∧
      receptionOver (lineTicks (charTicks c + t35Ticks c - 1) s) = false ∧
      receptionOver (lineTicks (charTicks c + t35Ticks c) s) = true := by decide +kernel

/-! ### Witnesses: concrete states and operands that meet the hypotheses of the statements, clause by clause -/

/-- The reset state is sound. -/
theorem reset_inv : Inv State.reset := by constructor <;> decide

theorem reset_pollInv : PollInv State.reset := by decide

/-- The tick of `rst` (R400). -/
theorem witness_ResetGivesEveryElementItsValue :
    let s := { State.reset with env := { Env.quiet with rstNext := [true] } }
    cfgWf s.cfg = true ∧ rstPort s = true := by decide
/-- A word without `rst`, and one that meets `rst` at 1 in its third tick. -/
theorem witness_StepRunsTheDecodedWord :
    let s := presentWord (.op [0x04]) State.reset
    let u := { State.reset with env := { Env.quiet with pend := [.op [0x27, 0xC4]], rstNext := [false, false, true] } }
    (cfgWf s.cfg = true ∧ rstPort s = false ∧ s.env.pend = [.op [0x04]] ∧ decode (.op [0x04]) = .ok .crcGet ∧
      (∀ r ∈ s.env.rstNext, r = false) ∧ decodeTableWord 8 0x31 = some .mstCycle) ∧
    (cfgWf u.cfg = true ∧ rstPort u = false ∧ decode (.op [0x27, 0xC4]) = .ok (.uartTxchar 0xC4) ∧
      nextIs (exec (.uartTxchar 0xC4) (takeWord u)) (fun t => (sampledRst u t).any id) = true) := by decide +kernel
theorem witness_StepRefusesWhatIsIllFormed :
    cfgWf { Cfg.vectorDefault with bitTicks := 0 } = false ∧ cfgWf State.reset.cfg = true ∧
      rstPort (presentWord (.op [0xFF]) State.reset) = false ∧
      (presentWord (.op [0xFF]) State.reset).env.pend = [.op [0xFF]] ∧ decode (.op [0xFF]) = .error (.unassignedOp 0xFF) :=
  ⟨by decide, by decide, by decide, rfl, rfl⟩
theorem witness_DecodeOfEncode :
    Instr.wf (.trTransact (List.replicate 8 0xFF) 5) = true ∧ Instr.wf (.trTransact (List.replicate 8 0) 255) = true ∧
      Instr.wf (.rsp 1 3 [0xFFFF] 0 0) = true ∧ Instr.wf (.rsp 1 3 (List.replicate 125 0xFFFF) 0 0) = true ∧
      Instr.wf (.decResp (List.replicate 255 0) 1 2) = true ∧ Instr.wf (.dsmBtnMedia 65535) = true ∧
      Instr.wf (.spPublish ⟨.rational (-2 ^ 63), .rational (1 / 2 ^ 64), .coded (2 ^ 128 - 1), 0⟩ true) = true := by
  decide +kernel
theorem witness_DecodedIsWellFormed : decode (.op [0x62, 0xFF, 0xFF]) = .ok (.dsmBtnMedia 65535) ∧
    decode (.frame goodFrame) = .ok (.rsp 1 3 [2345, 123] 0x68 0x44) := by decide
theorem witness_WireWordsHaveOneMeaning : decode (.frame goodFrame) = .ok (.rsp 1 3 [2345, 123] 0x68 0x44) ∧
    decode (.char .n2 [false, true, true, true, true, true, true, true, true, true, true]) = .ok (.char8N2 0xFF) := by decide
theorem witness_EveryStepKeepsTheInvariant : Inv State.reset ∧ ∃ t, step State.reset = .next t ∧ t.mst.phase = .encode :=
  ⟨reset_inv, by
    obtain ⟨t, h, hp⟩ := exists_of_nextIs test_step_starts
    exact ⟨t, h, by simp at hp; exact hp.1⟩⟩
theorem witness_ResetIsSound : cfgWf Cfg.vectorDefault = true := by decide
theorem witness_TheBlockNeverStops :
    cfgWf State.reset.cfg = true ∧ Inv State.reset ∧ PollInv State.reset ∧ State.reset.env.pend = [] :=
  ⟨by decide, reset_inv, reset_pollInv, rfl⟩
theorem witness_EachElementHasItsWriters :
    ([.reset, .spPublish ⟨.coded 1, .coded 2, .coded 3, 4⟩ true, .mstCycle, .dsmTick, .blkTick true, .trGap, .mstPoll 1 0 2,
      .char8N1 0, .crcInit, .decResp goodFrame 1 2, .rsp 1 3 [2345, 123] 0x68 0x44] : List Instr).all (fun i => nextIs (exec i State.reset) fun _ => true) =
      true := by decide +kernel
theorem witness_CrcTableForm : 0 < 256 ∧ 255 < 256 := by decide
theorem witness_CrcParallelForm : 0 < 16 ∧ 15 < 16 := by decide
theorem witness_CrcDetectsOneCorruptedByte :
    withCrc [0x01, 0x03, 0x04, 0x09, 0x29, 0x00, 0x7B] = goodFrame ∧ goodFrame[0]? ≠ some 0x02 ∧ goodFrame[8]? ≠ some 0x45 ∧
      8 < 7 + 2 := by decide +kernel
/-- One buffer for each clause: shorter than 5 bytes, V-DEC-18, V-DEC-6, V-DEC-2, V-DEC-7, V-DEC-9, V-DEC-1. -/
theorem witness_DecRespChecksInOrder :
    decodeResponse [0x01, 0x03, 0xAA, 0xBB] 1 2 = .err .shortFrame ∧
    decodeResponse [0x01, 0x03, 0x04, 0x09, 0x28, 0x00, 0x7B, 0x68, 0x44] 1 2 = .err .crcMismatch ∧
    decodeResponse [0x02, 0x03, 0x04, 0x00, 0x01, 0x00, 0x02, 0x19, 0x32] 1 2 = .err .slaveMismatch ∧
    decodeResponse [0x01, 0x83, 0x02, 0xC0, 0xF1] 1 2 = .err (.exceptionResponse 2) ∧
    decodeResponse [0x01, 0x03, 0x02, 0x00, 0x01, 0x79, 0x84] 1 2 = .err .shortFrame ∧
    decodeResponse [0x01, 0x03, 0x04, 0x00, 0x01, 0x00, 0x02, 0x09, 0x09, 0x58, 0xE3] 1 2 = .err .shortFrame ∧
    decodeResponse goodFrame 1 2 = .ok [2345, 123] := by decide +kernel
theorem witness_OneCorruptedByteIsCrcMismatch :
    decodeResponse goodFrame 1 2 = .ok [2345, 123] ∧ 0 < goodFrame.length ∧ goodFrame[0]? ≠ some 0x02 ∧
      8 < goodFrame.length ∧ goodFrame[8]? ≠ some 0x45 := by decide +kernel
theorem witness_ResponseRoundTrip :
    validPoll Cfg.vectorDefault 1 0 1 = true ∧ validPoll Cfg.vectorDefault 247 65411 125 = true ∧
      Cfg.vectorDefault.maxCount ≤ 127 ∧ ([0xFFFF] : List U16).length = (1 : U16).toNat ∧
      (List.replicate 125 (0 : U16)).length = (125 : U16).toNat := by decide +kernel
/-- Well-formed configurations of all four layouts: the hypothesis of TxcharSendsTheCharacter, TransmitterTickByTick,
AnswersAreTheReceiversView, FrameRowsArrive, ResetIsSound and CycleCompletes. -/
theorem witness_wellFormedConfigurations :
    cfgWf (layout .none 1) = true ∧ cfgWf (layout .even 1) = true ∧ cfgWf (layout .none 2) = true ∧
      cfgWf (layout .odd 2) = true ∧ cfgWf { layout .even 1 with bitTicks := 16 } = true := by decide
theorem witness_RxcharReceivesTheCharacter_glitch :
    let c := { layout .even 1 with bitTicks := 4 }
    let s := listening c (List.replicate 3 true ++ (List.replicate 2 false ++ List.replicate 1 true) ++ onLine c
      ([false] ++ (List.range 8).map (0x01 : Byte).getLsbD ++ [true] ++ [true] ++ List.replicate (c.stopBits - 1) true) ++ [])
    cfgWf s.cfg = true ∧ s.urx.enable = true ∧ s.urx.busy = false ∧ 1 ≤ 2 ∧ 2 ≤ s.cfg.bitTicks / 2 ∧
      s.cfg.bitTicks / 2 < 2 + 1 ∧ nextIs (exec .uartRxchar s)
        (fun t => t.res == .character (some (.byte 0x01)) && t.now == 50 && t.env.line == []) = true := by decide +kernel
theorem witness_RxcharReceivesTheCharacter :
    let s := listening Cfg.vectorDefault
      [true, false, true, false, false, false, false, false, false, false, true, true, false]
    State.reset.urx.enable = false ∧ cfgWf s.cfg = true ∧ s.urx.enable = true ∧ s.urx.busy = false ∧
      s.env.line = List.replicate 1 true ++ onLine s.cfg ([false] ++ (List.range 8).map (0x01 : Byte).getLsbD ++
        (if s.cfg.parity = .none then [] else [true]) ++ [true] ++ List.replicate (s.cfg.stopBits - 1) true) ++ [false] := by
  decide
/-- One state for each of the four layouts, and one between characters just before the silence and the timeout end it. -/
theorem witness_CharacterRowsReachTheReceiver :
    State.reset.urx.enable = false ∧
    ([layout .none 1, layout .none 2, layout .even 1, layout .odd 2]).all (fun c =>
      let s := listening c []
      cfgWf c && s.tr.phase == .rx && s.urx.enable && !s.urx.busy && decide (s.rxlen < s.tr.maxLen) && !seenChar s &&
        decide (s.tr.timeoutCnt + charTicks s.cfg ≤ s.cfg.respTimeout)) = true ∧
    (let s : State := { betweenChars with tr := { betweenChars.tr with silenceCnt := 38, timeoutCnt := 989 } };
      cfgWf s.cfg = true ∧ s.tr.phase = .rx ∧ s.urx.enable = true ∧ s.urx.busy = false ∧ s.rxlen < s.tr.maxLen ∧
        s.tr.timeoutCnt + charTicks s.cfg = s.cfg.respTimeout ∧ seenChar s = true ∧
        s.tr.silenceCnt + 1 = t35Ticks s.cfg) ∧
    (layout .none 1).parity = .none ∧ parityBit (layout .even 1).parity 0xC4 = some true ∧
      parityBit (layout .odd 2).parity 0x01 ≠ some true := by decide
/-- A sound state inside a reception, and the two kinds of frames. -/
theorem witness_FrameRowsArrive :
    cfgWf betweenChars.cfg = true ∧ Inv betweenChars ∧ State.reset.urx.enable = false ∧
      rspBytes 1 3 [2345, 123] 0x68 0x44 = goodFrame ∧ excBytes 1 3 2 0xC0 0xF1 = [0x01, 0x83, 0x02, 0xC0, 0xF1] :=
  ⟨by decide, by constructor <;> decide, rfl, rfl, rfl⟩
theorem witness_GapWaitsForSilence : cfgWf State.reset.cfg = true ∧ State.reset.tr.idleCnt ≤ t35Ticks State.reset.cfg ∧
    (39 : Nat) ≤ t35Ticks State.reset.cfg ∧ State.reset.tr.phase ≠ .done ∧ (leaveDone (drain State.reset)).env.line = [] ∧
    ({ State.reset.tr with phase := .done } : Tr).phase = .done ∧ State.reset.utx.busy = false := by decide
theorem witness_WriteSendsTheRequest :
    cfgWf withRequest.cfg = true ∧ txOperand withRequest = some [0x01, 0x03, 0x00, 0x00, 0x00, 0x02, 0xC4, 0x0B] ∧
      withRequest.tr.txidx < 8 ∧ 8 ≤ ({ withRequest.tr with txidx := 8 } : Tr).txidx ∧
      ({ withRequest.tr with txidx := 7 } : Tr).txidx < 8 ∧ (∃ k, k < 8 ∧ Memory.read State.reset.tx k = none) :=
  ⟨by decide, by decide, by decide, by decide, by decide, 7, by decide, by decide⟩
theorem witness_RxenReleasesAndListens :
    (answering [answerOf 50 goodFrame]).env.answers = answerOf 50 goodFrame :: [] := rfl
theorem witness_ReadGivesTheReception : (listening Cfg.vectorDefault []).tr.phase ≠ .idle ∧ State.reset.tr.phase = .idle := by
  decide
theorem witness_AcceptedCharactersAreAPrefix : cfgWf Cfg.vectorDefault = true ∧ 1 ≤ 1 := by decide
theorem witness_ReceptionTickByTick :
    let s := listening Cfg.vectorDefault (renderAnswer Cfg.vectorDefault (answerOf 50 goodFrame))
    cfgWf s.cfg = true ∧ s.tr.phase = .rx ∧ s.urx = urxOn ∧ s.rx = [] ∧ s.rxlen = 0 ∧ s.tr.silenceCnt = 0 ∧
      s.tr.timeoutCnt = 0 ∧ s.tr.ioErr = false ∧ s.dirState = false ∧ 5 ≤ s.tr.maxLen := by decide
theorem witness_TransactCompletes : cfgWf State.reset.cfg = true ∧ 1 ≤ 9 := by decide
theorem witness_TransactIsItsSixSteps :
    txOperand withRequest = some [0x01, 0x03, 0x00, 0x00, 0x00, 0x02, 0xC4, 0x0B] ∧ withRequest.tr.phase = .idle ∧
      9 = 5 + 2 * withRequest.cfg.count ∧ (listening Cfg.vectorDefault []).tr.phase ≠ .idle ∧
      (listening Cfg.vectorDefault []).tr.phase ≠ .done := by decide
/-- A state in a phase of a transaction that the master has begun. -/
def inTransaction (p : TrPhase) (s : State) : State := inPhase .transact { s with tr := { s.tr with phase := p } }

/-- Each phase of the block's own transaction just before it may end, and when it does. -/
theorem witness_TransactIsItsSixSteps_phases :
    let c := { Cfg.vectorDefault with turnaround := 2 }
    let gap := fun n => inTransaction .gap { State.reset with tr := { State.reset.tr with idleCnt := n } }
    let tx := fun n => inTransaction .tx { withRequest with tr := { State.reset.tr with txidx := n } }
    let sending := fun p => inTransaction p (loadChar 0x01 withRequest)
    let turn := fun n => inTransaction .turn { State.reset with cfg := c, tr := { State.reset.tr with turnCnt := n } }
    let rx := fun n => inTransaction .rx { State.reset with tr := { State.reset.tr with timeoutCnt := n } }
    (pollMove (inTransaction .idle State.reset)).any (nextIs · fun t => t.tr.phase == .gap) = true ∧
    pollMove (gap 38) = none ∧ (pollMove (gap 39)).any (nextIs · fun t => t.dirState) = true ∧
    pollMove (sending .tx) = none ∧ (pollMove (tx 6)).any (nextIs · fun t => t.utx.busy && t.tr.phase == .tx) = true ∧
    (pollMove (tx 7)).any (nextIs · fun t => t.utx.busy && t.tr.phase == .flush) = true ∧
    (pollMove (tx 8)).any (nextIs · fun t => t.tr.phase == .flush) = true ∧
    (tick (sending .flush)).tr.phase = .flush ∧ (tick (inTransaction .flush State.reset)).tr.phase = .turn ∧
    pollMove (turn 1) = none ∧ (pollMove (turn 2)).any (nextIs · fun t => t.urx.enable) = true ∧
    pollMove (rx (Cfg.vectorDefault.respTimeout - 1)) = none ∧
    (pollMove (rx Cfg.vectorDefault.respTimeout)).any (nextIs · fun t => t.tr.phase == .done) = true ∧
    (tick (inTransaction .done State.reset)).tr.phase = .idle := by decide +kernel
theorem witness_TransactionLength :
    cfgWf State.reset.cfg = true ∧ (requestBytes 1 0 2).length = 8 ∧ State.reset.utx.busy = false ∧
      State.reset.env.line = [] ∧ goodFrame ≠ [] ∧
      901 + goodFrame.length * charTicks Cfg.vectorDefault ≤ Cfg.vectorDefault.respTimeout := by decide
/-- Valid triples at the bounds, and an invalid one beyond each bound. -/
theorem witness_PollCompletes :
    cfgWf Cfg.vectorDefault = true ∧ validPoll Cfg.vectorDefault 1 0 1 = true ∧
      validPoll Cfg.vectorDefault 247 65411 125 = true ∧ validPoll Cfg.vectorDefault 0 0 1 = false ∧
      validPoll Cfg.vectorDefault 248 0 1 = false ∧ validPoll Cfg.vectorDefault 1 0 0 = false ∧
      validPoll Cfg.vectorDefault 1 0 126 = false ∧ validPoll Cfg.vectorDefault 1 65535 2 = false := by decide
theorem witness_ExactAttemptCounts : validPoll State.reset.cfg 1 0 2 = true := by decide
theorem witness_GoodAnswerIsTheResult :
    let s := answering [answerOf 50 (withCrc (rspBody 1 3 [2345, 123]))]
    cfgWf s.cfg = true ∧ validPoll s.cfg 1 0 2 = true ∧ ([2345, 123] : List U16).length = (2 : U16).toNat ∧
      50 + (5 + 2 * (2 : U16).toNat) * charTicks s.cfg ≤ s.cfg.respTimeout ∧
      s.env.answers = answerOf 50 (withCrc (rspBody 1 3 [2345, 123])) :: [] := by decide +kernel
theorem witness_SilentSlaveIsUnreachable :
    let s := answering [[], [], []]
    cfgWf s.cfg = true ∧ validPoll s.cfg 1 0 2 = true ∧ s.env.answers = List.replicate (1 + s.cfg.retryCount) [] ++ [] := by
  decide
/-- A failed cycle (P4: the code is 1), and a move in each of the phases CONVERT, REPORT, TRANSACT and DECODE. -/
theorem witness_FailedCycleKeepsTheSnapshot :
    (∃ t, exec .mstCycle (answering [[], [], []]) = .next t ∧ t.pollStatus = 1) ∧
    (pollMove (inPhase .convert (withFrame [2345, 123]))).any (nextIs · fun t => t.mst.phase == .report) = true ∧
    (pollMove (inPhase .report State.reset)).any (nextIs · fun t => t.mst.phase == .wait) = true ∧
    (pollMove (inPhase .transact { State.reset with
      cfg := { Cfg.vectorDefault with retryCount := 0 }, tr := { State.reset.tr with phase := .done } })).any
        (nextIs · fun t => t.mst.phase == .report && t.mst.result == 1) = true ∧
    (pollMove (inPhase .decode { State.reset with
      rx := [(0, 0x01), (1, 0x83), (2, 0x02), (3, 0xC0), (4, 0xF1)], rxlen := 5 })).any
        (nextIs · fun t => t.mst.phase == .report && t.mst.result == 2) = true := by
  refine ⟨?_, by decide +kernel, by decide +kernel, by decide +kernel, by decide +kernel⟩
  obtain ⟨t, h, hp⟩ := exists_of_nextIs (o := exec .mstCycle (answering [[], [], []]))
    (p := fun t => t.pollStatus == 1) (by decide +kernel)
  exact ⟨t, h, by simpa using hp⟩
/-- Each phase of the master just before it may end, and when it does; each outcome of an attempt, with and without attempts
left. -/
theorem witness_FailedCycleKeepsTheSnapshot_moves :
    let c := Cfg.vectorDefault
    let wait := fun n => { State.reset with mst := { State.reset.mst with intervalCnt := n } }
    let tried := fun k s => { s with mst := { s.mst with attempt := k } }
    let ended := fun (bytes : List Byte) => inTransaction .done
      { State.reset with rx := Memory.writeN [] 0 bytes, rxlen := bytes.length }
    let received := fun (bytes : List Byte) => inPhase .decode
      { State.reset with rx := Memory.writeN [] 0 bytes, rxlen := bytes.length }
    let goesTo := fun (s : State) (p : MstPhase) (k : Nat) =>
      (pollMove s).any (nextIs · fun t => t.mst.phase == p && t.mst.attempt == k)
    let backoff := fun n => inPhase .backoff { State.reset with mst := { State.reset.mst with backoffCnt := n } }
    pollMove (wait (c.pollInterval - 1)) = none ∧ goesTo (wait c.pollInterval) .encode 0 = true ∧
    goesTo (inPhase .encode State.reset) .transact 0 = true ∧
    pollMove { ended [] with mst := { (ended []).mst with held := true } } = none ∧
    goesTo (tried 2 (ended goodFrame)) .decode 2 = true ∧ goesTo (tried 1 (ended [])) .backoff 2 = true ∧
    goesTo (tried 2 (ended [])) .report 2 = true ∧ goesTo (received goodFrame) .convert 0 = true ∧
    goesTo (received [0x01, 0x83, 0x02, 0xC0, 0xF1]) .report 0 = true ∧ goesTo (tried 1 (received [0x01])) .backoff 2 = true ∧
    goesTo (tried 2 (received [0x01])) .report 2 = true ∧ pollMove (backoff (c.backoff - 1)) = none ∧
    goesTo (backoff c.backoff) .transact 0 = true ∧ goesTo (inPhase .convert (withFrame [2345, 123])) .report 0 = true ∧
    goesTo (inPhase .report State.reset) .wait 0 = true := by decide +kernel
theorem witness_ConvertMeasures :
    let s := withFrame [2345, 123]
    (s.regframeValid = true ∧ s.regframe[s.cfg.vIdx]? = some 2345 ∧ s.regframe[s.cfg.iIdx]? = some 123 ∧
      s.cfg.numerics = .exact (1 / 10) (1 / 100) ∧ s.cfg.threshold = .rational 1) ∧
    State.reset.regframeValid = false ∧ (withFrame [2345]).regframe[State.reset.cfg.iIdx]? = none ∧
      (withFrame []).regframe[State.reset.cfg.vIdx]? = none := ⟨⟨rfl, rfl, rfl, rfl, rfl⟩, rfl, rfl, rfl⟩
theorem witness_SampleFollowsTheRule :
    State.reset.db.lookup 7 = none ∧ State.reset.db.lookup 3 = some ⟨false, 0⟩ ∧
      State.reset.cfg.debounceN ≤ 2 + 1 ∧ 0 + 1 < State.reset.cfg.debounceN := by decide
theorem witness_OneEventPerPress :
    (samplePin 3 true ⟨false, 2⟩).2 = true ∧ 1 ≤ 3 ∧ (⟨true, 0⟩ : PinState).stable = true ∧ (⟨true, 0⟩ : PinState).cnt < 3 ∧
      ¬ List.replicate 3 false <:+: List.replicate 0 false ++ [false, false, true, false, false] := by decide
theorem witness_BurstsGiveNoEvent :
    1 ≤ 3 ∧ (⟨false, 2⟩ : PinState).stable = false ∧ (⟨false, 2⟩ : PinState).cnt < 3 ∧
      ¬ List.replicate 3 true <:+: List.replicate 2 true ++ [false, true, true, false, true] := by decide
theorem witness_ShiftRegisterRealisation : 1 ≤ 1 ∧ 1 ≤ 5 := by decide
theorem witness_DisplayOperations :
    State.reset.disp.mode = .startup 0 ∧ (∃ i, (inMode (.media 2)).disp.mode = .media i) ∧ (inMode .sensor).disp.mode = .sensor ∧
      2 < State.reset.cfg.nMedia ∧ State.reset.cfg.nMedia ≤ 3 ∧ State.reset.blink.armed = false ∧
      (⟨true, 1, true⟩ : Blink).armed = true := ⟨rfl, ⟨2, rfl⟩, rfl, by decide, by decide, rfl, rfl⟩
theorem witness_UiTickIsItsSequence : cfgWf State.reset.cfg = true ∧ DbOk State.reset.cfg State.reset.db := by decide
/-- Two pins with an event in one tick; `pressed` holds them one sample before it. -/
theorem witness_HighestPinDecides :
    (DbOk Cfg.vectorDefault pressed ∧ (sampleAll 3 [false, true, false, true] pressed).2 = [1, 3] ∧
      pinUse Cfg.vectorDefault 3 = .sensor) ∧
    (DbOk Cfg.vectorDefault pressed ∧ (sampleAll 3 [false, true, false, false] pressed).2 = [1] ∧
      pinUse Cfg.vectorDefault 1 = .media 1) ∧ ∀ q ∈ [1, 3], q ≤ 3 := by decide
theorem witness_StartupNeverResumes :
    Instr.dsmTick ≠ .reset ∧ (inMode .sensor).disp.mode.isStartup = false ∧ (inMode .sensor).env.pend = [] ∧
      rstPort (inMode .sensor) = false ∧ nextIs (exec .dsmTick (inMode .sensor)) (fun _ => true) = true ∧
      nextIs (step (inMode .sensor)) (fun _ => true) = true := by decide +kernel
theorem witness_StartupLength :
    cfgWf Cfg.vectorDefault = true ∧ ∀ raw ∈ ([[], [false], [false, false, false, false]] : List (List Bool)),
      ∀ level ∈ raw, level = false := by decide
theorem witness_BlinkPeriod : 1 ≤ State.reset.cfg.blinkN ∧ State.reset.blink.armed = false := by decide

/-- The reset state with a ui tick due. -/
def dueState : State := { State.reset with ui := { div := 0, due := true } }

theorem witness_AgentsDoNotDisturbEachOther :
    (∃ t, pollMove State.reset = some (.next t)) ∧ rstPort dueState = false ∧ cfgWf dueState.cfg = true ∧
      dueState.env.pend = [] ∧ dueState.ui.due = true ∧
      nextIs (step { dueState with env := { Env.quiet with orderNext := [true] } }) (fun t => !t.ui.due) = true :=
  ⟨⟨_, rfl⟩, rfl, by decide, rfl, rfl, by decide +kernel⟩

/-- The ui tick in a transaction: a press is acted on in it. Two states that differ in what the other agent owns, and a ui tick
and a move of the poll agent in either order. -/
theorem witness_AgentsDoNotDisturbEachOther_reads :
    let s := { inTransaction .rx dueState with db := pressed, env := { Env.quiet with btn := [false, true, false, true] } }
    let poll := { dueState with mst := { dueState.mst with phase := .report }, crc := 0 }
    let ui := { State.reset with disp := { mode := .sensor, dwell := 0 }, blink := { visible := true, cnt := 1, armed := true } }
    let draw := fun b => { dueState with env := { Env.quiet with orderNext := [b] } }
    nextIs (exec (.uiTick (rawOperand s)) s) (fun t => t.disp != s.disp) = true ∧ (uiMove s).disp ≠ s.disp ∧
    poll ≠ dueState ∧ poll.cfg = dueState.cfg ∧ uiSide poll = uiSide dueState ∧ poll.snap = dueState.snap ∧
    rawOperand poll = rawOperand dueState ∧ ui ≠ State.reset ∧ pollSide ui = pollSide State.reset ∧
    (∀ b, cfgWf (draw b).cfg = true ∧ (draw b).env.pend = [] ∧ rstPort (draw b) = false ∧
      (pollMove (draw b)).any (nextIs · fun _ => true) = true ∧ (draw b).ui.due = true) ∧
    pollMove s = none ∧ (pollMove State.reset).isSome = true ∧ State.reset.ui.due = false := by decide +kernel

/-- A state at the end of the flush: the next tick releases the direction (R197). -/
def flushed : State :=
  { withRequest with
    dirState := true, tr := { State.reset.tr with phase := .flush, txidx := 8 }
    mst := { State.reset.mst with phase := .transact, intervalCnt := 0 } }

theorem witness_HalfDuplexIsKept :
    Inv betweenChars ∧ betweenChars.urx.enable = true ∧ Inv flushed ∧ flushed.env.pend = [] ∧ rstPort flushed = false ∧ flushed.dirState = true ∧
      nextIs (step flushed) (fun t => !t.dirState) = true :=
  ⟨by constructor <;> decide, rfl, by constructor <;> decide, rfl, rfl, rfl, by decide +kernel⟩

end Sys2Proof.Tests
end

section
/-! SUPPORT. Which branch of `step` is taken: an ill-formed configuration and an undecodable word (00_scope.md R13,
30_encoding.md R110). -/

namespace Sys2Proof.Proofs

open Sys2Proof.Machine

/-- The presented word that is next is the first of those pending. -/
theorem fetchWord_of_pend {s : State} {w : StreamWord} {ws : List StreamWord} (hp : s.env.pend = w :: ws) :
    fetchWord s = some w := by
  rw [fetchWord, hp, List.head?_cons]

/-- The configuration is tested before `rst` and before any word (R13). -/
theorem step_of_illFormed {s : State} (hc : cfgWf s.cfg = false) : step s = .refused .illFormedConfig := by
  simp [step, hc]

/-- Past the configuration test and with `rst` at 0, a presented word that is no instruction stops the step (R110). -/
theorem step_of_undecodable {s : State} {w : StreamWord} {e : DecodeError} (hc : cfgWf s.cfg = true)
    (hr : rstPort s = false) (hw : fetchWord s = some w) (hd : decode w = .error e) :
    step s = .refused (.undecodable e) := by
  simp [step, hc, hr, hw, hd]

/-- Settles O3: each clause is one branch of `step`. -/
theorem stepRefusesWhatIsIllFormed : Obligations.StepRefusesWhatIsIllFormed :=
  ⟨fun _ hc => step_of_illFormed hc,
   fun _ _ _ _ hc hr hp hd => step_of_undecodable hc hr (fetchWord_of_pend hp) hd⟩

end Sys2Proof.Proofs
end

section
/-! SUPPORT. RESET: the value it gives every element, and that the state it leaves is sound (70_reset_and_hazards.md R400,
R401). -/

namespace Sys2Proof.Proofs

open Sys2Proof.Machine Sys2Proof.Laws

/-- The monitored pins from pin `k` on are those `pinmap` gives a use (R290). -/
theorem mem_monitoredFrom (p k : Nat) (us : List PinUse) :
    p ∈ monitoredFrom k us ↔ ∃ i, p = k + i ∧ us.getD i .unmapped ≠ .unmapped := by
  induction us generalizing k with
  | nil => simp [monitoredFrom]
  | cons u us ih =>
    have hrest : (∃ i, p = k + (i + 1) ∧ us.getD i .unmapped ≠ .unmapped) ↔ p ∈ monitoredFrom (k + 1) us := by
      rw [ih]
      exact exists_congr fun i => by rw [show k + (i + 1) = k + 1 + i by omega]
    rw [← Nat.or_exists_add_one]
    simp only [Nat.add_zero, List.getD_cons_zero, List.getD_cons_succ, hrest]
    cases u <;> simp [monitoredFrom]

/-- Right after reset there is one debouncer entry per monitored pin, at rest (R43, R290). -/
theorem mem_resetDb (c : Cfg) (e : Env) (p : Nat) (st : PinState) :
    (p, st) ∈ (State.resetOf c e).db ↔ monitored c p = true ∧ st = { stable := false, cnt := 0 } := by
  have hmon : p ∈ monitoredFrom 0 c.pinmap ↔ monitored c p = true := by
    rw [mem_monitoredFrom]
    simp [monitored, pinUse]
  rw [← hmon]
  constructor
  · intro h
    obtain ⟨q, hq, heq⟩ := List.mem_map.1 h
    cases heq
    exact ⟨hq, rfl⟩
  · rintro ⟨hp, rfl⟩
    exact List.mem_map.2 ⟨p, hp, rfl⟩

/-- While `rst` is 1 a step is the tick that resets, whatever words are presented (R400). -/
theorem step_of_rst {s : State} (hc : cfgWf s.cfg = true) (hr : rstPort s = true) : step s = .next (resetTick s) := by
  rw [step, if_pos hc, if_pos hr]

/-- Settles O1: RESET writes the whole state, and the tick with `rst` at 1 writes the same state. -/
theorem resetGivesEveryElementItsValue : Obligations.ResetGivesEveryElementItsValue :=
  fun s => ⟨⟨State.resetOf s.cfg s.env, rfl, rfl, rfl, rfl, read_nil, read_nil, rfl, rfl, rfl, rfl, rfl, rfl, rfl, rfl, rfl, rfl,
      rfl, rfl, rfl, rfl, rfl, rfl, rfl, rfl, rfl, rfl, rfl, rfl, mem_resetDb s.cfg s.env, rfl, rfl, rfl, rfl, rfl, rfl, rfl⟩,
    fun hc hr => ⟨State.resetOf s.cfg s.env, rfl, step_of_rst hc hr⟩⟩

/-- The state after reset is sound: every counter is 0 and every unit at rest (R43). -/
theorem resetOf_inv {c : Cfg} (hc : CfgFacts c) (e : Env) : Inv (State.resetOf c e) where
  tr := ⟨Nat.zero_le _, Nat.zero_le _, Nat.zero_le _, Nat.zero_le _, Nat.zero_le _, le_rfl, show 5 ≤ 255 by decide⟩
  utx := ⟨fun _ => ⟨rfl, rfl⟩, nofun⟩
  urx := ⟨fun _ => rfl, fun _ => ⟨rfl, rfl⟩, nofun⟩
  half := ⟨⟨nofun, nofun⟩, nofun, nofun, nofun, nofun⟩
  mst := ⟨Nat.zero_le _, Nat.zero_le _, le_rfl, fun _ => rfl, nofun, nofun, fun _ => rfl⟩
  buffers := ⟨Or.inl rfl, rfl, Nat.zero_le _⟩
  disp := ⟨decide_eq_true hc.nMedia, hc.startupN, nofun⟩
  blink := ⟨hc.blinkN, fun _ => ⟨rfl, rfl⟩⟩
  db := by
    refine ⟨?_, List.forall_mem_map.2 fun p _ => hc.debounceN⟩
    rw [State.resetOf, List.map_map]
    exact List.map_id _
  outputs := ⟨fun _ => rfl, decide_eq_true hc.nMedia⟩
  ui := hc.uiTickTicks

/-- The master waits after reset, which presupposes nothing (R28, R43). -/
theorem resetOf_pollInv (c : Cfg) (e : Env) : PollInv (State.resetOf c e) :=
  ⟨by rintro (h | h | h) <;> exact absurd h nofun, nofun⟩

/-- Settles O9. -/
theorem resetIsSound : Obligations.ResetIsSound :=
  ⟨fun c e hc => ⟨resetOf_inv ((cfgWf_iff c).1 hc) e, resetOf_pollInv c e⟩, reset_cfgWf, rfl⟩

end Sys2Proof.Proofs
end

section
/-! SUPPORT. The invariant in four parts: the line and its time, the transmitter, the buffers and the master, the UI agent
with the slot. One lemma per part says what carries it from a state to the next. -/

namespace Sys2Proof.Proofs

open Sys2Proof.Machine Sys2Proof.Laws

/-! ### The parts -/

/-- The Transport, the receiver, the direction and the interval counter: what time and the line change. `intervalCnt` stands
beside them because every passing tick counts it. -/
structure LineOk (c : Cfg) (t : Tr) (u : Urx) (dir : Bool) (intervalCnt : Nat) : Prop where
  tr : TrOk c t
  urx : UrxOk c u
  listens : u.enable = true ↔ t.phase = .rx
  rxDir : t.phase = .rx → dir = false
  turnDir : t.phase = .turn → dir = false
  txDir : t.phase = .tx → dir = true
  interval : intervalCnt ≤ c.pollInterval

/-- The line side of a state. -/
abbrev LineSound (s : State) : Prop := LineOk s.cfg s.tr s.urx s.dirState s.mst.intervalCnt

/-- The transmitter, and that it has the direction while it sends (R405). -/
structure SenderOk (c : Cfg) (u : Utx) (txd dir : Bool) : Prop where
  utx : UtxOk c u txd
  drives : u.busy = true → dir = true

/-- The transmitter of a state. -/
abbrev SenderSound (s : State) : Prop := SenderOk s.cfg s.utx s.uartTxd s.dirState

/-- A well-formed configuration with a sound line and a sound transmitter: what each step of a transaction asks for and
leaves. -/
structure LinkSound (s : State) : Prop where
  cfg : CfgFacts s.cfg
  line : LineSound s
  sender : SenderSound s

/-- `RX` holds exactly the bytes received, at most 255 (R23). -/
abbrev ReceivedOk (s : State) : Prop := s.rx.map Prod.fst = List.range s.rxlen ∧ s.rxlen ≤ 255

/-- What the UI agent owns, and the slot it reads. -/
structure UiOk (c : Cfg) (u : UiSide) (n : Snap) : Prop where
  disp : DispOk c u.disp
  blink : BlinkOk c u.blink
  db : DbOk c u.db
  slot : n.valid = false → n.alert = false
  out : modeOk c u.out.mode = true
  div : u.ui.div < c.uiTickTicks

/-- The UI agent's side of a state. -/
abbrev UiSound (s : State) : Prop := UiOk s.cfg (uiSide s) s.snap

/-- The parts together are the invariant. -/
theorem inv_iff (s : State) :
    Inv s ↔ LineSound s ∧ SenderSound s ∧ MstOk s.cfg s.mst ∧ BuffersOk s ∧ UiSound s := by
  constructor
  · rintro ⟨tr, utx, urx, ⟨listens, rxDir, turnDir, txDir, drives⟩, mst, buffers, disp, blink, db, ⟨slot, out⟩, ui⟩
    have ⟨_, _, interval, _⟩ := mst
    exact ⟨⟨tr, urx, listens, rxDir, turnDir, txDir, interval⟩, ⟨utx, drives⟩, mst, buffers,
      ⟨disp, blink, db, slot, out, ui⟩⟩
  · rintro ⟨⟨tr, urx, listens, rxDir, turnDir, txDir, _⟩, ⟨utx, drives⟩, mst, buffers,
      ⟨disp, blink, db, slot, out, ui⟩⟩
    exact ⟨tr, utx, urx, ⟨listens, rxDir, turnDir, txDir, drives⟩, mst, buffers, disp, blink, db, ⟨slot, out⟩, ui⟩

section
variable {s t : State} (h : Inv s)
include h

theorem inv_link (hc : CfgFacts s.cfg) : LinkSound s := by
  obtain ⟨line, sender, _⟩ := (inv_iff s).1 h
  exact ⟨hc, line, sender⟩

theorem inv_ui : UiSound s := by
  obtain ⟨_, _, _, _, ui⟩ := (inv_iff s).1 h
  exact ui

/-- A poll frame carries the UI agent's side. -/
theorem uiSound_of_pollFrame (f : PollFrame s t) : UiSound t := by
  have hu := inv_ui h
  rw [UiSound, f.cfg, f.ui, f.snap]
  exact hu

/-- After a poll frame the four other parts are to be shown. -/
theorem inv_of_pollFrame (f : PollFrame s t) (hl : LinkSound t) (hm : MstOk t.cfg t.mst) (hb : BuffersOk t) : Inv t :=
  (inv_iff t).2 ⟨hl.line, hl.sender, hm, hb, uiSound_of_pollFrame h f⟩

/-- After a link frame the line, the transmitter and the receive buffer are to be shown. -/
theorem inv_of_linkFrame (f : LinkFrame s t) (hl : LinkSound t) (hr : ReceivedOk t) : Inv t := by
  refine inv_of_pollFrame h f.toPollFrame hl ?_ ?_
  · obtain ⟨attempt, backoff, _, rest⟩ := h.mst
    have hi := hl.line.interval
    rw [f.mst, f.cfg] at *
    exact ⟨attempt, backoff, hi, rest⟩
  · have htx := h.buffers.1
    rw [← f.tx] at htx
    exact ⟨htx, hr⟩

/-- After a send frame the line and the transmitter are to be shown. -/
theorem inv_of_sendFrame (f : SendFrame s t) (hl : LinkSound t) : Inv t := by
  refine inv_of_linkFrame h f.toLinkFrame hl ?_
  rw [ReceivedOk, f.rx, f.rxlen]
  exact h.buffers.2

end

theorem cfgFacts_of_pollFrame {s t : State} (f : PollFrame s t) (hc : CfgFacts s.cfg) : CfgFacts t.cfg := by
  rw [f.cfg]
  exact hc

/-! ### The line while time passes -/

/-- The Transport's registers may take any values in their ranges while the phase stays. -/
theorem lineSound_setTr {s : State} (h : LineSound s) {v : Tr} (hp : v.phase = s.tr.phase) (hv : TrOk s.cfg v) :
    LineSound (s.setTr v) := by
  obtain ⟨_, urx, listens, rxDir, turnDir, txDir, interval⟩ := h
  rw [← hp] at listens rxDir turnDir txDir
  exact ⟨hv, urx, listens, rxDir, turnDir, txDir, interval⟩

theorem lineSound_setIdleCnt {s : State} (h : LineSound s) {i : Nat} (hi : i ≤ t35Ticks s.cfg) :
    LineSound (s.setTr { s.tr with idleCnt := i }) := by
  obtain ⟨txidx, _, rest⟩ := h.tr
  exact lineSound_setTr h rfl ⟨txidx, hi, rest⟩

theorem passTicks_lineSound {s : State} (h : LineSound s) (n : Nat) : LineSound (passTicks n s) := by
  unfold passTicks
  split
  · exact h
  · obtain ⟨⟨txidx, idle, turn, silence, timeout, len⟩, urx, listens, rxDir, turnDir, txDir, _⟩ := h
    refine ⟨⟨txidx, idle, turn, silence, ?_, len⟩, urx, ?_, ?_, ?_, ?_, Nat.min_le_left _ _⟩
    · dsimp only
      split
      · exact Nat.min_le_left _ _
      · exact timeout
    all_goals
      dsimp only
      split
      · simp_all
      · assumption

theorem idlePass_lineSound {s : State} (h : LineSound s) (n : Nat) : LineSound (idlePass n s) := by
  unfold idlePass
  dsimp only
  split
  · exact h
  · exact lineSound_setIdleCnt (passTicks_lineSound h n) (by rw [passTicks_cfg]; exact idleAfter_le _ _ _ _)

theorem busyPass_lineSound {s : State} (h : LineSound s) (n : Nat) : LineSound (busyPass n s) := by
  unfold busyPass
  dsimp only
  split
  · exact h
  · exact lineSound_setIdleCnt (passTicks_lineSound h n) (Nat.zero_le _)

/-! ### The request index while time passes -/

theorem passTicks_txidx (n : Nat) (s : State) : (passTicks n s).tr.txidx = s.tr.txidx := by
  unfold passTicks
  split <;> rfl

theorem busyPass_txidx (n : Nat) (s : State) : (busyPass n s).tr.txidx = s.tr.txidx := by
  unfold busyPass
  split
  · rfl
  · exact passTicks_txidx n s

theorem drain_txidx (s : State) : (drain s).tr.txidx = s.tr.txidx := by
  unfold drain
  split
  · simp only [setEnv_tr, setUartTxd_tr, setUtx_tr, busyPass_txidx]
  · rfl

/-! ### Sending -/

/-- A transmitter at rest, whatever the direction. -/
theorem senderOk_rest (c : Cfg) (dir : Bool) : SenderOk c utxOff true dir :=
  ⟨⟨fun _ => ⟨rfl, rfl⟩, fun h => (nomatch h)⟩, fun h => (nomatch h)⟩

/-- What the transmitter does is no part of the line side. -/
theorem lineSound_setSender {s : State} (h : LineSound s) (u : Utx) (txd : Bool) (e : Env) :
    LineSound (((s.setUtx u).setUartTxd txd).setEnv e) := h

@[simp] theorem loadChar_cfg (d : Byte) (s : State) : (loadChar d s).cfg = s.cfg := by simp [loadChar]
@[simp] theorem loadChar_tr (d : Byte) (s : State) : (loadChar d s).tr = s.tr := by simp [loadChar]
@[simp] theorem loadChar_urx (d : Byte) (s : State) : (loadChar d s).urx = s.urx := by simp [loadChar]
@[simp] theorem loadChar_dirState (d : Byte) (s : State) : (loadChar d s).dirState = s.dirState := by simp [loadChar]
@[simp] theorem loadChar_mst (d : Byte) (s : State) : (loadChar d s).mst = s.mst := by simp [loadChar]
@[simp] theorem loadChar_utx (d : Byte) (s : State) :
    (loadChar d s).utx = { shift := packLevels (charLevels s.cfg d), bitcnt := 0, tickcnt := 0, busy := true } := by
  simp [loadChar]
@[simp] theorem loadChar_uartTxd (d : Byte) (s : State) :
    (loadChar d s).uartTxd = (packLevels (charLevels s.cfg d)).getLsbD 0 := by
  simp [loadChar]

theorem loadChar_lineSound {s : State} (h : LineSound s) (d : Byte) : LineSound (loadChar d s) := by
  simpa only [LineSound, loadChar_cfg, loadChar_tr, loadChar_urx, loadChar_dirState, loadChar_mst] using h

/-- A character is loaded where the direction is at transmit: its first level stands on the line (R195, R200). -/
theorem loadChar_sound {s : State} (h : LinkSound s) (hd : s.dirState = true) (d : Byte) : LinkSound (loadChar d s) where
  cfg := by rw [loadChar_cfg]; exact h.cfg
  line := loadChar_lineSound h.line d
  sender := by
    have hbits : 0 < charBits s.cfg := by have := ten_le_charBits h.cfg; omega
    rw [SenderSound, loadChar_cfg, loadChar_utx, loadChar_uartTxd, loadChar_dirState]
    exact ⟨⟨nofun, fun _ => ⟨hbits, h.cfg.bitTicks, rfl⟩⟩, fun _ => hd⟩

theorem drain_lineSound {s : State} (h : LineSound s) : LineSound (drain s) := by
  unfold drain
  dsimp only
  split
  · exact lineSound_setSender (busyPass_lineSound h _) _ _ _
  · exact h

/-- After the transmitter has finished it rests. -/
theorem drain_rests {s : State} (h : SenderSound s) : (drain s).utx = utxOff ∧ (drain s).uartTxd = true := by
  cases hb : s.utx.busy with
  | true =>
    obtain ⟨hutx, htxd, _⟩ := drain_spec s hb
    exact ⟨hutx, htxd⟩
  | false => rw [drain_idle hb]; exact h.utx.1 hb

theorem senderSound_of_rests {s : State} (h : s.utx = utxOff ∧ s.uartTxd = true) : SenderSound s := by
  rw [SenderSound, h.1, h.2]
  exact senderOk_rest _ _

theorem drain_sound {s : State} (h : LinkSound s) : LinkSound (drain s) where
  cfg := cfgFacts_of_pollFrame (drain_frame s).toPollFrame h.cfg
  line := drain_lineSound h.line
  sender := senderSound_of_rests (drain_rests h.sender)

/-- A character sent whole leaves the transmitter at rest, whatever it was doing and whatever the direction is. -/
theorem sendChar_sound {s : State} (h : LinkSound s) (d : Byte) : LinkSound (sendChar d s) where
  cfg := cfgFacts_of_pollFrame (sendChar_frame d s).toPollFrame h.cfg
  line := drain_lineSound (loadChar_lineSound (drain_lineSound h.line) d)
  sender :=
    have ⟨hutx, htxd, _⟩ := drain_spec (loadChar d (drain s)) (by rw [loadChar_utx])
    senderSound_of_rests ⟨hutx, htxd⟩

theorem linkSound_setTr {s : State} (h : LinkSound s) {v : Tr} (hp : v.phase = s.tr.phase) (hv : TrOk s.cfg v) :
    LinkSound (s.setTr v) where
  cfg := h.cfg
  line := lineSound_setTr h.line hp hv
  sender := h.sender

theorem sendChar_txidx (d : Byte) (s : State) : (sendChar d s).tr.txidx = s.tr.txidx :=
  calc (sendChar d s).tr.txidx = (loadChar d (drain s)).tr.txidx := drain_txidx _
    _ = (drain s).tr.txidx := by rw [loadChar_tr]
    _ = s.tr.txidx := drain_txidx s

/-- The request bytes sent one by one: the index stays in its range, the transmitter rests between them. -/
theorem sendBytes_sound (bytes : List Byte) {s : State} (h : LinkSound s) (hn : s.tr.txidx + bytes.length ≤ 8) :
    LinkSound (bytes.foldl sendCounted s) := by
  induction bytes generalizing s with
  | nil => exact h
  | cons d ds ih =>
    rw [List.length_cons] at hn
    have hs := sendChar_sound h d
    obtain ⟨_, rest⟩ := hs.line.tr
    have hnext : (sendChar d s).tr.txidx + 1 ≤ 8 := by rw [sendChar_txidx]; omega
    have hidx : (sendCounted s d).tr.txidx = s.tr.txidx + 1 := congrArg (· + 1) (sendChar_txidx d s)
    exact ih (linkSound_setTr hs rfl ⟨hnext, rest⟩) (by omega)

/-- TR.WRITE sends from `tr.txidx` on, so eight request bytes end at index 8 (R195). -/
theorem writeRequest_sound {req : List Byte} (hreq : req.length = 8) {s : State} (h : LinkSound s) :
    LinkSound (writeRequest req s) := by
  obtain ⟨hidx, _⟩ := h.line.tr
  exact sendBytes_sound _ h (by rw [List.length_drop, hreq]; omega)

/-! ### Phases -/

/-- `max_len` of a count a buffer can hold is in the range of R25. -/
theorem maxLenOf_range {n : Nat} (h : n ≤ 125) : 5 ≤ maxLenOf n ∧ maxLenOf n ≤ 255 := by
  unfold maxLenOf; omega

theorem maxLenIn_range {s : State} (hc : CfgFacts s.cfg) (h : LineSound s) (p : TrPhase) :
    5 ≤ maxLenIn s p ∧ maxLenIn s p ≤ 255 := by
  unfold maxLenIn
  split
  · exact maxLenOf_range (hc.countHi.trans hc.maxCount)
  · obtain ⟨_, _, _, _, _, len⟩ := h.tr
    exact len

/-- A phase other than RX is entered, with the direction that phase needs: the receiver is off (R27). -/
theorem enterPhase_lineOk {s : State} (hc : CfgFacts s.cfg) (h : LineSound s) {p : TrPhase} {dir : Bool} (hrx : p ≠ .rx)
    (hturn : p = .turn → dir = false) (htx : p = .tx → dir = true) :
    LineOk s.cfg (s.enterPhase p).tr urxOff dir s.mst.intervalCnt := by
  obtain ⟨txidx, idle, _⟩ := h.tr
  exact
    { tr := ⟨txidx, idle, Nat.zero_le _, Nat.zero_le _, Nat.zero_le _, maxLenIn_range hc h p⟩
      urx := ⟨fun _ => rfl, fun _ => ⟨rfl, rfl⟩, fun hb => (nomatch hb)⟩
      listens := ⟨fun he => (nomatch he), fun hp => absurd hp hrx⟩
      rxDir := fun hp => absurd hp hrx
      turnDir := hturn
      txDir := htx
      interval := h.interval }

/-- A phase that asks nothing of the direction. -/
theorem enterPhase_sound {s : State} (h : LinkSound s) {p : TrPhase} (hrx : p ≠ .rx) (hturn : p ≠ .turn) (htx : p ≠ .tx) :
    LinkSound (s.enterPhase p) where
  cfg := h.cfg
  line := enterPhase_lineOk h.cfg h.line hrx (fun hp => absurd hp hturn) (fun hp => absurd hp htx)
  sender := h.sender

theorem idlePass_sound {s : State} (h : LinkSound s) (n : Nat) : LinkSound (idlePass n s) where
  cfg := cfgFacts_of_pollFrame (idlePass_frame n s).toPollFrame h.cfg
  line := idlePass_lineSound h.line n
  sender := by simpa [SenderSound] using h.sender

theorem leaveDone_sound {s : State} (h : LinkSound s) : LinkSound (leaveDone s) := by
  unfold leaveDone
  split
  · exact idlePass_sound h 1
  · exact h

theorem waitGap_sound {s : State} (h : LinkSound s) : LinkSound (waitGap s) :=
  idlePass_sound (enterPhase_sound (leaveDone_sound (drain_sound h)) (by decide) (by decide) (by decide)) _

theorem assertDir_sound {s : State} (h : LinkSound s) : LinkSound (assertDir s) where
  cfg := h.cfg
  line := by
    have hp : LineSound ((s.enterPhase .tx).setDirState true) :=
      enterPhase_lineOk h.cfg h.line nofun nofun (fun _ => rfl)
    obtain ⟨_, rest⟩ := hp.tr
    exact lineSound_setTr hp rfl ⟨Nat.zero_le 8, rest⟩
  sender := ⟨h.sender.utx, fun _ => rfl⟩

theorem flushTx_sound {s : State} (h : LinkSound s) : LinkSound (flushTx s) :=
  drain_sound (enterPhase_sound h (by decide) (by decide) (by decide))

/-- The direction is released once the transmitter has nothing to send (R197). -/
theorem releaseDir_sound {s : State} (h : LinkSound s) (hb : s.utx.busy = false) : LinkSound (releaseDir s) where
  cfg := h.cfg
  line := enterPhase_lineOk h.cfg h.line nofun (fun _ => rfl) nofun
  sender := ⟨h.sender.utx, fun hbusy => absurd (hb.symm.trans hbusy) nofun⟩

/-- Receive-enable follows the release of the direction (R197, R198). -/
theorem receiveEnable_sound {s : State} (h : LinkSound s) (hd : s.dirState = false) : LinkSound (receiveEnable s) where
  cfg := h.cfg
  line := by
    obtain ⟨txidx, idle, _, _, _, len⟩ := h.line.tr
    exact
      { tr := ⟨txidx, idle, Nat.zero_le _, Nat.zero_le _, Nat.zero_le _, len⟩
        urx := ⟨fun he => (nomatch he), fun _ => ⟨rfl, rfl⟩, fun hb => (nomatch hb)⟩
        listens := ⟨fun _ => rfl, fun _ => rfl⟩
        rxDir := fun _ => hd
        turnDir := fun hp => (nomatch hp)
        txDir := fun hp => (nomatch hp)
        interval := h.line.interval }
  sender := h.sender

/-- The receive buffer is empty (R198). -/
theorem receiveEnable_receivedOk (s : State) : ReceivedOk (receiveEnable s) := ⟨rfl, Nat.zero_le _⟩

theorem enableReceive_sound {s : State} (h : LinkSound s) : LinkSound (enableReceive s) := by
  have hb : (idlePass 1 (drain s)).utx.busy = false := by rw [idlePass_utx]; exact drain_busy s
  have hr := releaseDir_sound (idlePass_sound (drain_sound h) 1) hb
  exact receiveEnable_sound (idlePass_sound hr _) (idlePass_dirState _ _)

end Sys2Proof.Proofs
end

section
/-! SUPPORT. The receiver, the reception and the transaction keep the line, the transmitter and the buffers sound. -/

namespace Sys2Proof.Proofs

open Sys2Proof.Machine Sys2Proof.Laws

/-! ### The receiver -/

/-- A receiver that is on and between characters. -/
theorem urxOk_between {c : Cfg} {u : Urx} (he : u.enable = true) (hb : u.busy = false) (hbit : u.bitcnt = 0)
    (htick : u.tickcnt = 0) : UrxOk c u :=
  ⟨by simp [he], fun _ => ⟨hbit, htick⟩, by simp [hb]⟩

/-- A receiver that is on and inside a character. -/
theorem urxOk_inside {c : Cfg} {u : Urx} (he : u.enable = true) (hb : u.busy = true) (hbit : u.bitcnt < charBits c)
    (htick : u.tickcnt < c.bitTicks) : UrxOk c u :=
  ⟨by simp [he], by simp [hb], fun _ => ⟨hbit, htick⟩⟩

/-- A tick of the receiver keeps its counters in range (R201). -/
theorem urxTick_urxOk {c : Cfg} (hc : CfgFacts c) (rxd : Bool) {u : Urx} (h : UrxOk c u) : UrxOk c (urxTick c rxd u).1 := by
  have hbits : 0 < charBits c := by have := ten_le_charBits hc; omega
  have hticks : 0 < c.bitTicks := hc.bitTicks
  by_cases hq : u.enable = false ∨ (u.busy = false ∧ rxd = true)
  · rw [urxTick, if_pos hq]
    exact h
  · have he : u.enable = true := by simpa using fun e => hq (Or.inl e)
    have hbit : (if u.busy then u else { u with shift := 0, bitcnt := 0, tickcnt := 0, busy := true }).bitcnt < charBits c := by
      split
      · rename_i hbusy
        obtain ⟨_, _, hinside⟩ := h
        exact (hinside hbusy).1
      · exact hbits
    rw [urxTick, if_neg hq]
    dsimp only
    generalize hv : (if u.busy then u else { u with shift := 0, bitcnt := 0, tickcnt := 0, busy := true }) = v at *
    have hve : v.enable = true := by rw [← hv]; split <;> exact he
    have hvb : v.busy = true := by
      rw [← hv]
      split
      · assumption
      · rfl
    split
    · exact urxOk_between he rfl rfl rfl
    · split
      · exact urxOk_inside hve hvb hbit ‹_›
      · split
        · exact urxOk_inside hve hvb ‹_› hticks
        · exact urxOk_between hve rfl rfl rfl

/-- A waveform keeps the receiver sound and neither switches it on nor off. -/
theorem receiveRun_urx {c : Cfg} (hc : CfgFacts c) (levels : List Bool) {u : Urx} (idle : Nat) (h : UrxOk c u) :
    UrxOk c (receiveRun c levels u idle).1 ∧ (receiveRun c levels u idle).1.enable = u.enable := by
  unfold receiveRun
  induction levels generalizing u idle with
  | nil => exact ⟨h, rfl⟩
  | cons l ls ih =>
    obtain ⟨hok, hen⟩ := ih (if l && !u.busy then min (t35Ticks c) (idle + 1) else 0) (urxTick_urxOk hc l h)
    exact ⟨hok, hen.trans (urxTick_enable c l u)⟩

theorem lineSound_setUrx {s : State} (h : LineSound s) {v : Urx} (hv : UrxOk s.cfg v) (he : v.enable = s.urx.enable) :
    LineSound (s.setUrx v) := by
  obtain ⟨tr, _, listens, rxDir, turnDir, txDir, interval⟩ := h
  rw [← he] at listens
  exact ⟨tr, hv, listens, rxDir, turnDir, txDir, interval⟩

theorem receiveChar_lineSound {s : State} (hc : CfgFacts s.cfg) (h : LineSound s) : LineSound (receiveChar s).1 := by
  unfold receiveChar
  split
  · exact h
  · rename_i n item _
    obtain ⟨hok, hen⟩ := receiveRun_urx hc (lineFor s.cfg s.env.line n) s.tr.idleCnt h.urx
    have hu := lineSound_setUrx (passTicks_lineSound h n) (v := (receiveRun _ _ _ _).1) (by rw [passTicks_cfg]; exact hok)
      (by rw [passTicks_urx]; exact hen)
    obtain ⟨_, _, _, silence, _⟩ := h.tr
    obtain ⟨txidx, _, turn, _, rest⟩ := hu.tr
    have hcfg := passTicks_cfg n s
    refine lineSound_setTr hu rfl ⟨txidx, ?_, turn, ?_, rest⟩
    · rw [setUrx_cfg, hcfg]
      exact idleAfterReceive_le _ _ _ _ _
    · rw [setUrx_cfg, hcfg]
      dsimp only
      split
      · exact silence
      · exact Nat.zero_le _

theorem receiveChar_sound {s : State} (h : LinkSound s) : LinkSound (receiveChar s).1 where
  cfg := cfgFacts_of_pollFrame (receiveChar_frame s).toPollFrame h.cfg
  line := receiveChar_lineSound h.cfg h.line
  sender := by
    unfold receiveChar
    split
    · exact h.sender
    · simpa [SenderSound] using h.sender

/-! ### The reception -/

theorem passTicks_sound {s : State} (h : LinkSound s) (n : Nat) : LinkSound (passTicks n s) where
  cfg := cfgFacts_of_pollFrame (passTicks_frame n s).toPollFrame h.cfg
  line := passTicks_lineSound h.line n
  sender := by simpa [SenderSound] using h.sender

theorem linkSound_setIdleCnt {s : State} (h : LinkSound s) {i : Nat} (hi : i ≤ t35Ticks s.cfg) :
    LinkSound (s.setTr { s.tr with idleCnt := i }) where
  cfg := h.cfg
  line := lineSound_setIdleCnt h.line hi
  sender := h.sender

/-- What a reception gave is stored: the buffer and the error flag have no part in the line. -/
theorem linkSound_storeReception {s : State} (h : LinkSound s) (rx : Memory) (rxlen : Nat) (ioErr : Bool) :
    LinkSound (((s.setRx rx).setRxlen rxlen).setTr { s.tr with ioErr := ioErr }) :=
  linkSound_setTr (s := (s.setRx rx).setRxlen rxlen) ⟨h.cfg, h.line, h.sender⟩ rfl h.line.tr

/-- The ticks of a reception pass and the receiver is switched off (R199). -/
theorem readResponse_sound {s : State} (h : LinkSound s) (m : Nat) : LinkSound (readResponse m s) := by
  refine linkSound_storeReception (enterPhase_sound (linkSound_setIdleCnt (passTicks_sound h _) ?_) ?_ ?_ ?_) _ _ _
  · rw [passTicks_cfg]
    exact idleAfterReceive_le _ _ _ _ _
  all_goals decide

/-- A reception bounded by 255 bytes fits the buffer (R23). -/
theorem readResponse_receivedOk {m : Nat} (h1 : 5 ≤ m) (h2 : m ≤ 255) (s : State) : ReceivedOk (readResponse m s) := by
  obtain ⟨hrx, hlen, _⟩ := readResponse_spec m s
  obtain ⟨_, hm, _⟩ := receiveLoop_spec (rxBounds s.cfg m) 0 false [] false (heard s) (Nat.zero_le _)
    (show 0 < m by omega)
  rw [ReceivedOk, hrx, hlen]
  exact ⟨keys_writeN_nil _, hm.trans h2⟩

/-! ### The transaction -/

theorem linkSound_setMaxLen {s : State} (h : LinkSound s) {m : Nat} (h1 : 5 ≤ m) (h2 : m ≤ 255) :
    LinkSound (s.setTr { s.tr with maxLen := m }) := by
  obtain ⟨txidx, idle, turn, silence, timeout, _⟩ := h.line.tr
  exact linkSound_setTr h rfl ⟨txidx, idle, turn, silence, timeout, h1, h2⟩

/-- The six steps of a transaction, whatever the receive buffer held before (R190). -/
theorem transact_sound {req : List Byte} {m : Nat} (hreq : req.length = 8) (h1 : 5 ≤ m) (h2 : m ≤ 255) {s : State}
    (h : LinkSound s) : LinkSound (transact req m s).1 ∧ ReceivedOk (transact req m s).1 :=
  have sent := flushTx_sound (writeRequest_sound hreq (assertDir_sound (linkSound_setMaxLen (waitGap_sound h) h1 h2)))
  ⟨readResponse_sound (enableReceive_sound sent) m, readResponse_receivedOk h1 h2 _⟩

end Sys2Proof.Proofs
end

section
/-! SUPPORT. The master's polls and cycles, and the UI agent's operations, keep the invariant. -/

namespace Sys2Proof.Proofs

open Sys2Proof.Machine Sys2Proof.Laws

/-! ### The codec and the buffers -/

theorem buffersOk_of_linkFrame {s t : State} (f : LinkFrame s t) (h : BuffersOk s) (hr : ReceivedOk t) : BuffersOk t := by
  obtain ⟨htx, _⟩ := h
  rw [← f.tx] at htx
  exact ⟨htx, hr⟩

theorem buffersOk_of_sendFrame {s t : State} (f : SendFrame s t) (h : BuffersOk s) : BuffersOk t := by
  refine buffersOk_of_linkFrame f.toLinkFrame h ?_
  rw [ReceivedOk, f.rx, f.rxlen]
  exact h.2

/-- The eight request bytes fill `TX` (R160). -/
theorem encodeRequest_buffersOk (slave : Byte) (start n : U16) {s : State} (h : BuffersOk s) :
    BuffersOk (encodeRequest slave start n s) :=
  ⟨Or.inr (keys_writeN_tx h.1 _ (requestBytes_length slave start n)), h.2⟩

theorem encodeRequest_linkSound (slave : Byte) (start n : U16) {s : State} (h : LinkSound s) :
    LinkSound (encodeRequest slave start n s) := ⟨h.cfg, h.line, h.sender⟩

/-- The decoder writes `crc` and the register frame, and of a sound state neither is a part (R165). -/
theorem decodeInto_eq (buf : List Byte) (slave : Byte) (n : U16) (s : State) :
    ∃ crc frame valid, (decodeInto buf slave n s).1 = { s with crc := crc, regframe := frame, regframeValid := valid } := by
  rcases decodeInto_spec buf slave n s with ⟨f, _, e⟩ | ⟨_, _, e⟩
  · exact ⟨_, _, _, e⟩
  · exact ⟨_, s.regframe, s.regframeValid, e⟩

theorem inv_setFrame {s : State} (h : Inv s) (crc : U16) (frame : List U16) (valid : Bool) :
    Inv { s with crc := crc, regframe := frame, regframeValid := valid } :=
  ⟨h.tr, h.utx, h.urx, h.half, h.mst, h.buffers, h.disp, h.blink, h.db, h.outputs, h.ui⟩

theorem decodeInto_inv (buf : List Byte) (slave : Byte) (n : U16) {s : State} (h : Inv s) :
    Inv (decodeInto buf slave n s).1 := by
  obtain ⟨_, _, _, e⟩ := decodeInto_eq buf slave n s
  rw [e]
  exact inv_setFrame h _ _ _

/-! ### The poll -/

/-- What a poll keeps whatever phase the master is in: the link, the buffers, the number of attempts in its range. -/
structure PollSound (s : State) : Prop where
  link : LinkSound s
  buffers : BuffersOk s
  attempt : s.mst.attempt ≤ s.cfg.retryCount

theorem inv_poll {s : State} (hc : CfgFacts s.cfg) (h : Inv s) : PollSound s := by
  obtain ⟨attempt, _⟩ := h.mst
  exact ⟨inv_link h hc, h.buffers, attempt⟩

theorem linkSound_setMst {s : State} (h : LinkSound s) {m : Mst} (hi : m.intervalCnt ≤ s.cfg.pollInterval) :
    LinkSound (s.setMst m) := by
  obtain ⟨tr, urx, listens, rxDir, turnDir, txDir, _⟩ := h.line
  exact ⟨h.cfg, ⟨tr, urx, listens, rxDir, turnDir, txDir, hi⟩, h.sender⟩

theorem pollSound_setMst {s : State} (h : PollSound s) {m : Mst} (hi : m.intervalCnt ≤ s.cfg.pollInterval)
    (ha : m.attempt ≤ s.cfg.retryCount) : PollSound (s.setMst m) :=
  ⟨linkSound_setMst h.link hi, h.buffers, ha⟩

theorem setMstPhase_pollSound {s : State} (h : PollSound s) (p : MstPhase) : PollSound (s.setMstPhase p) :=
  pollSound_setMst h h.link.line.interval h.attempt

theorem mst_attempt_of_linkFrame {s t : State} (f : LinkFrame s t) : t.mst.attempt = s.mst.attempt := by rw [f.mst]

theorem pollSound_of_sendFrame {s t : State} (f : SendFrame s t) (h : PollSound s) (hl : LinkSound t) : PollSound t where
  link := hl
  buffers := buffersOk_of_sendFrame f h.buffers
  attempt := by rw [mst_attempt_of_linkFrame f.toLinkFrame, f.cfg]; exact h.attempt

theorem decodeInto_pollSound (buf : List Byte) (slave : Byte) (n : U16) {s : State} (h : PollSound s) :
    PollSound (decodeInto buf slave n s).1 ∧ (decodeInto buf slave n s).1.mst.attempt = s.mst.attempt := by
  obtain ⟨_, _, _, e⟩ := decodeInto_eq buf slave n s
  rw [e]
  exact ⟨⟨⟨h.link.cfg, h.link.line, h.link.sender⟩, h.buffers, h.attempt⟩, rfl⟩

/-- One attempt: a transaction, then the decoder; the number of attempts is not its business (R242). -/
theorem attempt_sound {req : List Byte} (hreq : req.length = 8) (slave : Byte) {n : U16} (hn : n.toNat ≤ 125) {s : State}
    (h : PollSound s) :
    PollSound (attempt req slave n s).1 ∧ (attempt req slave n s).1.mst.attempt = s.mst.attempt := by
  obtain ⟨h5, h255⟩ := maxLenOf_range hn
  have hs := setMstPhase_pollSound h .transact
  obtain ⟨hl, hr⟩ := transact_sound hreq h5 h255 hs.link
  have f := transact_frame req (maxLenOf n.toNat) (s.setMstPhase .transact)
  have ha : (transact req (maxLenOf n.toNat) (s.setMstPhase .transact)).1.mst.attempt = s.mst.attempt :=
    by rw [mst_attempt_of_linkFrame f]; rfl
  have ht : PollSound (transact req (maxLenOf n.toNat) (s.setMstPhase .transact)).1 :=
    ⟨hl, buffersOk_of_linkFrame f hs.buffers hr, by rw [ha, f.cfg]; exact h.attempt⟩
  unfold attempt
  dsimp only
  split
  · obtain ⟨hd, hcount⟩ := decodeInto_pollSound ‹_› slave n (setMstPhase_pollSound ht .decode)
    exact ⟨hd, hcount.trans ha⟩
  · exact ⟨ht, ha⟩

/-- The attempts of a poll: as many retries as are left stay below the limit (R243). -/
theorem attempts_sound {req : List Byte} (hreq : req.length = 8) (slave : Byte) {n : U16} (hn : n.toNat ≤ 125) (k : Nat)
    {s : State} (h : PollSound s) (hk : s.mst.attempt + k ≤ s.cfg.retryCount) : PollSound (attempts req slave n k s).1 := by
  induction k generalizing s with
  | zero =>
    obtain ⟨ha, _⟩ := attempt_sound hreq slave hn h
    rw [attempts]
    split <;> exact ha
  | succ k ih =>
    obtain ⟨ha, hcount⟩ := attempt_sound hreq slave hn h
    have hretry : (attempt req slave n s).1.cfg.retryCount = s.cfg.retryCount := by rw [(attempt_frame req slave n s).cfg]
    rw [attempts_succ]
    split
    · exact ha
    · exact ha
    · generalize (attempt req slave n s).1 = a at *
      have htake : PollSound (takeError a) := pollSound_setMst ha ha.link.line.interval (by dsimp only; omega)
      have f := idlePass_frame a.cfg.backoff (takeError a)
      have hwait := pollSound_of_sendFrame f htake (idlePass_sound htake.link _)
      have hret : PollSound (returnFromError (idlePass a.cfg.backoff (takeError a))) :=
        pollSound_setMst hwait hwait.link.line.interval hwait.attempt
      have hnext : (idlePass a.cfg.backoff (takeError a)).mst.attempt = a.mst.attempt + 1 :=
        mst_attempt_of_linkFrame f.toLinkFrame
      refine ih hret ?_
      rw [returnFromError_cfg, returnFromError_mst, f.cfg, takeError_cfg]
      dsimp only
      omega

/-- A poll of at most 125 registers (R241, R242). -/
theorem poll_sound (slave : Byte) (start : U16) {n : U16} (hn : n.toNat ≤ 125) {s : State} (h : PollSound s) :
    PollSound (poll slave start n s).1 := by
  have he : PollSound (encodeRequest slave start n (s.setMstPhase .encode)) :=
    have hs := setMstPhase_pollSound h .encode
    ⟨encodeRequest_linkSound slave start n hs.link, encodeRequest_buffersOk slave start n hs.buffers, hs.attempt⟩
  have h0 := pollSound_setMst (m := { (encodeRequest slave start n (s.setMstPhase .encode)).mst with attempt := 0 }) he
    he.link.line.interval (Nat.zero_le _)
  exact attempts_sound (requestBytes_length slave start n) slave hn _ h0 (by simp)

/-- Waiting for its next cycle the master has only its counters to keep in range. -/
theorem mstOk_wait {c : Cfg} {m : Mst} (ha : m.attempt ≤ c.retryCount) (hi : m.intervalCnt ≤ c.pollInterval) :
    MstOk c { m with phase := .wait, backoffCnt := 0, held := false } :=
  ⟨ha, Nat.zero_le _, hi, fun _ => rfl, nofun, nofun, fun _ => rfl⟩

/-- After a poll the master waits for the next cycle. -/
theorem inv_setMstPhase_wait {s : State} (h : PollSound s) (hu : UiSound s) : Inv (s.setMstPhase .wait) :=
  (inv_iff _).2 ⟨(setMstPhase_pollSound h .wait).link.line, h.link.sender, mstOk_wait h.attempt h.link.line.interval,
    h.buffers, hu⟩

/-- The report writes `poll_status` and `poll_done` beside. -/
theorem reportPoll_inv {s : State} (h : PollSound s) (hu : UiSound s) : Inv (reportPoll s) :=
  inv_setMstPhase_wait (s := (s.setPollStatus s.mst.result).setPollDone true)
    ⟨⟨h.link.cfg, h.link.line, h.link.sender⟩, h.buffers, h.attempt⟩ hu

theorem endPoll_pollSound {s : State} (h : PollSound s) (r : PollResult) : PollSound (endPoll r s) :=
  pollSound_setMst h h.link.line.interval h.attempt

/-- Conversion and publication write the slot whole, so that it is valid (R276). -/
theorem uiSound_publish {s : State} (h : UiSound s) (m : Measurement) (alert : Bool) : UiSound (publish m alert s) :=
  ⟨h.disp, h.blink, h.db, nofun, h.out, h.div⟩

/-- What CONVERT leaves: the poll's side as it was and a valid slot. -/
theorem convertPublish_sound {f : List U16} {s t : State} (h : PollSound s) (hu : UiSound s)
    (ht : convertPublish f s = .next t) : PollSound t ∧ UiSound t := by
  unfold convertPublish at ht
  split at ht
  · cases ht
    exact ⟨setMstPhase_pollSound (s := publish _ _ (s.setRegframeValid false))
      ⟨⟨h.link.cfg, h.link.line, h.link.sender⟩, h.buffers, h.attempt⟩ .report, uiSound_publish hu _ _⟩
  · cases ht

theorem afterPoll_sound {r : PollResult} {s t : State} (h : PollSound s) (hu : UiSound s) (ht : afterPoll r s = .next t) :
    PollSound t ∧ UiSound t := by
  cases r with
  | err e => cases ht; exact ⟨endPoll_pollSound h _, hu⟩
  | ok f => exact convertPublish_sound (endPoll_pollSound h (.ok f)) hu ht

theorem awaitInterval_pollSound {s : State} (h : PollSound s) : PollSound (awaitInterval s) := by
  have hw := setMstPhase_pollSound h .wait
  have hd := pollSound_of_sendFrame (drain_frame _) hw (drain_sound hw.link)
  have hi := pollSound_of_sendFrame (idlePass_frame _ _) hd (idlePass_sound hd.link
    ((drain (s.setMstPhase .wait)).cfg.pollInterval - (drain (s.setMstPhase .wait)).mst.intervalCnt))
  exact pollSound_setMst hi (Nat.zero_le _) hi.attempt

end Sys2Proof.Proofs
end

section
/-! SUPPORT. The UI agent's operations keep its registers in range: the debouncer, the display, the blink timer, the ui tick. -/

namespace Sys2Proof.Proofs

open Sys2Proof.Machine Sys2Proof.Laws

/-! ### The debouncer -/

theorem samplePinIn_cnt {n : Nat} (hn : 1 ≤ n) (p : Nat) (r : Bool) {db : List (Nat × PinState)}
    (h : ∀ e ∈ db, e.2.cnt < n) : ∀ e ∈ (samplePinIn n p r db).1, e.2.cnt < n := by
  induction db with
  | nil => exact fun e he => nomatch he
  | cons q db ih =>
    rw [List.forall_mem_cons] at h
    rw [samplePinIn]
    split
    · exact List.forall_mem_cons.2 ⟨samplePin_cnt hn r h.1, h.2⟩
    · exact List.forall_mem_cons.2 ⟨h.1, ih h.2⟩

theorem samplePinIn_dbOk {c : Cfg} (hc : CfgFacts c) (p : Nat) (r : Bool) {db : List (Nat × PinState)} (h : DbOk c db) :
    DbOk c (samplePinIn c.debounceN p r db).1 :=
  ⟨(samplePinIn_keys _ _ _ _).trans h.1, samplePinIn_cnt hc.debounceN p r h.2⟩

theorem sampleAll_dbOk {c : Cfg} (hc : CfgFacts c) (raw : List Bool) {db : List (Nat × PinState)} (h : DbOk c db) :
    DbOk c (sampleAll c.debounceN raw db).1 := by
  refine ⟨(sampleAll_keys _ _ _).trans h.1, ?_⟩
  rw [sampleAll_entries, List.forall_mem_map]
  exact fun e he => samplePin_cnt hc.debounceN _ (h.2 e he)

/-! ### The display -/

/-- A pin that starts a media item starts one that exists (R311). -/
theorem pinUse_media {c : Cfg} (hc : CfgFacts c) {p i : Nat} (h : pinUse c p = .media i) : i < c.nMedia := by
  rw [pinUse, List.getD_eq_getElem?_getD] at h
  cases hp : c.pinmap[p]? with
  | none => rw [hp] at h; cases h
  | some u =>
    rw [hp] at h
    cases h
    simpa [pinUseOk] using List.all_eq_true.1 hc.pinmap _ (List.mem_of_getElem? hp)

theorem dispOk_media {c : Cfg} (hc : CfgFacts c) {i : Nat} (h : i < c.nMedia) : DispOk c { mode := .media i, dwell := 0 } :=
  ⟨decide_eq_true h, hc.startupN, fun _ => rfl⟩

theorem dispOk_sensor {c : Cfg} (hc : CfgFacts c) : DispOk c { mode := .sensor, dwell := 0 } :=
  ⟨rfl, hc.startupN, fun _ => rfl⟩

theorem buttonEvent_dispOk {s : State} (hc : CfgFacts s.cfg) (h : DispOk s.cfg s.disp) (p : Nat) :
    DispOk s.cfg (buttonEvent s p).disp := by
  unfold buttonEvent
  split
  · exact dispOk_media hc (pinUse_media hc ‹_›)
  · exact dispOk_sensor hc
  · exact h

theorem buttonEvent_cfg (s : State) (p : Nat) : (buttonEvent s p).cfg = s.cfg := by rw [buttonEvent_eq, setDisp_cfg]

theorem events_dispOk {c : Cfg} (hc : CfgFacts c) (ps : List Nat) {s : State} (hs : s.cfg = c) (h : DispOk c s.disp) :
    DispOk c (ps.foldl buttonEvent s).disp := by
  induction ps generalizing s with
  | nil => exact h
  | cons p ps ih =>
    subst hs
    exact ih (buttonEvent_cfg s p) (buttonEvent_dispOk hc h p)

theorem dwellTick_dispOk {c : Cfg} (hc : CfgFacts c) {d : Disp} (h : DispOk c d) : DispOk c (dwellTick c d) := by
  obtain ⟨hmode, hdwell, hrest⟩ := h
  rcases dwellTick_cases c d with ⟨i, hm, hlt, e⟩ | ⟨i, hm, _, hlt, e⟩ | ⟨i, hm, _, _, e⟩ | ⟨_, e⟩ <;> rw [e]
  · exact ⟨hmode, hlt, fun hs => by rw [hm] at hs; cases hs⟩
  · exact ⟨decide_eq_true hlt, hc.startupN, fun _ => rfl⟩
  · exact dispOk_sensor hc
  · exact ⟨hmode, hdwell, hrest⟩

/-! ### The blink timer -/

theorem blinkTick_blinkOk {c : Cfg} (hc : CfgFacts c) (a : Bool) (b : Blink) : BlinkOk c (blinkTick c a b) := by
  have hpos : 0 < c.blinkN := hc.blinkN
  rcases blinkTick_cases c a b with ⟨_, e⟩ | ⟨_, _, e⟩ | ⟨_, _, _, e⟩ | ⟨_, _, hlt, e⟩ <;> rw [e]
  · exact ⟨hpos, fun _ => ⟨rfl, rfl⟩⟩
  · exact ⟨hpos, nofun⟩
  · exact ⟨hpos, nofun⟩
  · exact ⟨hlt, nofun⟩

/-! ### The operations -/

/-- The UI agent's elements, the slot, the result and the inputs may take new values while the UI agent's side is sound. -/
theorem inv_setUiSide {s : State} (h : Inv s) {u : UiSide} {n : Snap} (hu : UiOk s.cfg u n) (res : OpResult) (env : Env) :
    Inv { s with db := u.db, disp := u.disp, blink := u.blink, out := u.out, ui := u.ui, snap := n, res := res, env := env } := by
  obtain ⟨line, sender, mst, buffers, _⟩ := (inv_iff s).1 h
  exact (inv_iff _).2 ⟨line, sender, mst, buffers, hu⟩

theorem inv_setEnv {s : State} (h : Inv s) (env : Env) : Inv (s.setEnv env) := inv_setUiSide h (inv_ui h) s.res env

theorem inv_setRes {s : State} (h : Inv s) (res : OpResult) : Inv (s.setRes res) := inv_setUiSide h (inv_ui h) res s.env

theorem inv_setDb {s : State} (h : Inv s) {db : List (Nat × PinState)} (hdb : DbOk s.cfg db) : Inv (s.setDb db) :=
  have hu := inv_ui h
  inv_setUiSide (u := { uiSide s with db := db }) h ⟨hu.disp, hu.blink, hdb, hu.slot, hu.out, hu.div⟩ s.res s.env

theorem inv_setDisp {s : State} (h : Inv s) {d : Disp} (hd : DispOk s.cfg d) : Inv (s.setDisp d) :=
  have hu := inv_ui h
  inv_setUiSide (u := { uiSide s with disp := d }) h ⟨hd, hu.blink, hu.db, hu.slot, hu.out, hu.div⟩ s.res s.env

theorem inv_setBlink {s : State} (h : Inv s) {b : Blink} (hb : BlinkOk s.cfg b) : Inv (s.setBlink b) :=
  have hu := inv_ui h
  inv_setUiSide (u := { uiSide s with blink := b }) h ⟨hu.disp, hb, hu.db, hu.slot, hu.out, hu.div⟩ s.res s.env

theorem inv_setOut {s : State} (h : Inv s) {o : Intent} (ho : modeOk s.cfg o.mode = true) : Inv (s.setOut o) :=
  have hu := inv_ui h
  inv_setUiSide (u := { uiSide s with out := o }) h ⟨hu.disp, hu.blink, hu.db, hu.slot, ho, hu.div⟩ s.res s.env

theorem inv_setUi {s : State} (h : Inv s) {u : UiClock} (hdiv : u.div < s.cfg.uiTickTicks) : Inv (s.setUi u) :=
  have hu := inv_ui h
  inv_setUiSide (u := { uiSide s with ui := u }) h ⟨hu.disp, hu.blink, hu.db, hu.slot, hu.out, hdiv⟩ s.res s.env

/-- The slot written whole is valid, so an alert in it has a snapshot (R276, R323). -/
theorem inv_publish {s : State} (h : Inv s) (m : Measurement) (alert : Bool) : Inv (publish m alert s) :=
  inv_setUiSide h (uiSound_publish (inv_ui h) m alert) s.res s.env

theorem tickedDisp_dispOk (raw : List Bool) {s : State} (hc : CfgFacts s.cfg) (h : DispOk s.cfg s.disp) :
    DispOk s.cfg (tickedDisp raw s) :=
  dwellTick_dispOk hc (events_dispOk (s := s.setDb _) hc _ rfl h)

/-- A ui tick (R310). -/
theorem uiTick_inv (raw : List Bool) {s : State} (hc : CfgFacts s.cfg) (h : Inv s) : Inv (uiTick raw s) := by
  have hd := tickedDisp_dispOk raw hc h.disp
  rw [uiTick_eq]
  exact inv_setUiSide
    (u := { db := _, disp := tickedDisp raw s, blink := _, ui := s.ui
            out := { mode := (tickedDisp raw s).mode, meas := _, blink := _ } })
    h ⟨hd, blinkTick_blinkOk hc _ _, sampleAll_dbOk hc raw h.db, h.outputs.1, hd.1, h.ui⟩ s.res s.env

end Sys2Proof.Proofs
end

section
/-! SUPPORT. Every instruction keeps the invariant. -/

namespace Sys2Proof.Proofs

open Sys2Proof.Machine Sys2Proof.Laws

/-! ### Ticks -/

/-- A tick of the transmitter keeps it sound; one with nothing to send stays so (R200). -/
theorem utxTick_senderOk {c : Cfg} (hc : CfgFacts c) {u : Utx} {txd dir : Bool} (h : SenderOk c u txd dir) :
    SenderOk c (utxTick c u txd).1 (utxTick c u txd).2 dir := by
  have hticks : 0 < c.bitTicks := hc.bitTicks
  rcases utxTick_cases c u txd with ⟨_, e⟩ | ⟨hb, hlt, e⟩ | ⟨hb, _, hlt, e⟩ | ⟨_, _, _, e⟩ <;> rw [e]
  · exact h
  · obtain ⟨hbit, _, htxd⟩ := h.utx.2 hb
    exact ⟨⟨fun hn => absurd (hb.symm.trans hn) nofun, fun _ => ⟨hbit, hlt, htxd⟩⟩, h.drives⟩
  · exact ⟨⟨fun hn => absurd (hb.symm.trans hn) nofun, fun _ => ⟨hlt, hticks, rfl⟩⟩, h.drives⟩
  · exact senderOk_rest c dir

theorem utxTick_idle {c : Cfg} {u : Utx} (txd : Bool) (h : u.busy = false) : (utxTick c u txd).1.busy = false := by
  simp [utxTick, h]

theorem masterTick_mstOk {c : Cfg} {m : Mst} (h : MstOk c m) : MstOk c (masterTick c m) := by
  obtain ⟨attempt, backoff, interval, rest, result, report, held⟩ := h
  refine ⟨attempt, ?_, Nat.min_le_left _ _, ?_, result, report, held⟩
  · dsimp only [masterTick]
    split
    · exact Nat.min_le_left _ _
    · exact backoff
  · intro hp
    exact (if_neg hp).trans (rest hp)

/-- The UART's and the master's part of a tick, and the time: what the Transport's part starts from. -/
def countedTick (rxd : Bool) (s : State) : State :=
  ((((uartTick rxd s).setNow (s.now + 1)).setMst (masterTick s.cfg s.mst)).setPollDone false)

theorem tickWith_eq (rxd : Bool) (s : State) :
    tickWith rxd s = transportTick s (urxTick s.cfg rxd s.urx).2 (countedTick rxd s) := rfl

@[simp] theorem countedTick_cfg (rxd : Bool) (s : State) : (countedTick rxd s).cfg = s.cfg := by
  simp [countedTick, uartTick]
@[simp] theorem countedTick_dirState (rxd : Bool) (s : State) : (countedTick rxd s).dirState = s.dirState := by
  simp [countedTick, uartTick]
@[simp] theorem countedTick_tx (rxd : Bool) (s : State) : (countedTick rxd s).tx = s.tx := by
  simp [countedTick, uartTick]
@[simp] theorem countedTick_rx (rxd : Bool) (s : State) : (countedTick rxd s).rx = s.rx := by
  simp [countedTick, uartTick]
@[simp] theorem countedTick_rxlen (rxd : Bool) (s : State) : (countedTick rxd s).rxlen = s.rxlen := by
  simp [countedTick, uartTick]
@[simp] theorem countedTick_mst (rxd : Bool) (s : State) : (countedTick rxd s).mst = masterTick s.cfg s.mst := by
  simp [countedTick]
@[simp] theorem countedTick_urx (rxd : Bool) (s : State) : (countedTick rxd s).urx = (urxTick s.cfg rxd s.urx).1 := by
  simp [countedTick, uartTick]
@[simp] theorem countedTick_utx (rxd : Bool) (s : State) : (countedTick rxd s).utx = (utxTick s.cfg s.utx s.uartTxd).1 := by
  simp [countedTick, uartTick]
@[simp] theorem countedTick_uartTxd (rxd : Bool) (s : State) :
    (countedTick rxd s).uartTxd = (utxTick s.cfg s.utx s.uartTxd).2 := by
  simp [countedTick, uartTick]

/-- Of the Transport's registers the counting changes the idle counter only (R209). -/
theorem countedTick_tr (rxd : Bool) (s : State) :
    ∃ i, i ≤ t35Ticks s.cfg ∧ (countedTick rxd s).tr = { s.tr with idleCnt := i } := by
  refine ⟨if lineIdle s rxd then min (t35Ticks s.cfg) (s.tr.idleCnt + 1) else 0, ?_, by simp [countedTick, uartTick]⟩
  split
  · exact Nat.min_le_left _ _
  · exact Nat.zero_le _

theorem countedTick_frame (rxd : Bool) (s : State) : PollFrame s (countedTick rxd s) :=
  pollFrame_trans (uartTick_frame rxd s).toPollFrame (counted_frame _ _ _)

theorem countedTick_sound {s : State} (h : LinkSound s) (rxd : Bool) : LinkSound (countedTick rxd s) where
  cfg := cfgFacts_of_pollFrame (countedTick_frame rxd s) h.cfg
  line := by
    obtain ⟨i, hi, htr⟩ := countedTick_tr rxd s
    obtain ⟨tr, urx, listens, rxDir, turnDir, txDir, _⟩ :=
      lineSound_setUrx (lineSound_setIdleCnt h.line hi) (urxTick_urxOk h.cfg rxd h.line.urx) (urxTick_enable _ _ _)
    rw [LineSound, htr, countedTick_cfg, countedTick_urx, countedTick_dirState, countedTick_mst]
    exact ⟨tr, urx, listens, rxDir, turnDir, txDir, Nat.min_le_left _ _⟩
  sender := by
    rw [SenderSound, countedTick_cfg, countedTick_utx, countedTick_uartTxd, countedTick_dirState]
    exact utxTick_senderOk h.cfg h.sender

theorem countedTick_inv {s : State} (hc : CfgFacts s.cfg) (h : Inv s) (rxd : Bool) : Inv (countedTick rxd s) := by
  refine inv_of_pollFrame h (countedTick_frame rxd s) (countedTick_sound (inv_link h hc) rxd) ?_ ?_
  · rw [countedTick_cfg, countedTick_mst]
    exact masterTick_mstOk h.mst
  · rw [BuffersOk, countedTick_tx, countedTick_rx, countedTick_rxlen]
    exact h.buffers

/-- A reception that is not over has room for a byte and time for a tick (R199, R204). -/
theorem receptionOver_false {s : State} (h : receptionOver s = false) :
    s.rxlen < s.tr.maxLen ∧ s.tr.timeoutCnt < s.cfg.respTimeout := by
  simp only [receptionOver, endsByLength, endsByTimeout, Bool.or_eq_false_iff, decide_eq_false_iff_not, Nat.not_le] at h
  obtain ⟨⟨hlength, _⟩, htimeout⟩ := h
  exact ⟨hlength, htimeout⟩

/-- A character that ended is stored at the end of the buffer (R199). -/
theorem receptionTick_byte {before : State} (h : receptionOver before = false) (d : Byte) (s : State) :
    receptionTick before (some (.byte d)) s =
      ((s.setRx (Memory.write s.rx s.rxlen d)).setRxlen (s.rxlen + 1)).setTr
        { s.tr with timeoutCnt := s.tr.timeoutCnt + 1, silenceCnt := 0 } := by
  rw [receptionTick, h]
  rfl

/-- The reception's part of a tick, `u` being the state `s` after the other parts. -/
theorem receptionTick_inv {s u : State} (hc : CfgFacts u.cfg) (h : Inv u) (item : Option LinkItem)
    (hcfg : u.cfg = s.cfg) (hmax : u.tr.maxLen = s.tr.maxLen) (htime : u.tr.timeoutCnt = s.tr.timeoutCnt)
    (hlen : u.rxlen = s.rxlen) : Inv (receptionTick s item u) := by
  cases hover : receptionOver s with
  | true => simpa [receptionTick, hover] using h
  | false =>
    obtain ⟨hroom, hrest⟩ := receptionOver_false hover
    rw [← hmax, ← hlen] at hroom
    rw [← htime, ← hcfg] at hrest
    have hl := inv_link h hc
    obtain ⟨txidx, idle, turn, silence, _, h5, h255⟩ := hl.line.tr
    rcases receptionTick_cases hover item u with ⟨d, rfl, _⟩ | ⟨_, e⟩ | ⟨_, n, e, hn⟩
    · have f := receptionTick_frame s (some (.byte d)) u
      rw [receptionTick_byte hover] at f ⊢
      obtain ⟨_, hkeys, _⟩ := h.buffers
      refine inv_of_linkFrame h f ?_ ⟨keys_write_next hkeys, ?_⟩
      · have hs : LinkSound ((u.setRx (Memory.write u.rx u.rxlen d)).setRxlen (u.rxlen + 1)) := ⟨hl.cfg, hl.line, hl.sender⟩
        exact linkSound_setTr hs rfl ⟨txidx, idle, turn, Nat.zero_le _, hrest, h5, h255⟩
      · show u.rxlen + 1 ≤ 255
        omega
    · rw [e]
      exact inv_of_sendFrame h (setTr_frame u _) (linkSound_setTr hl rfl ⟨txidx, idle, turn, Nat.zero_le _, hrest, h5, h255⟩)
    · have hn' : n ≤ t35Ticks u.cfg := by omega
      rw [e]
      exact inv_of_sendFrame h (setTr_frame u _) (linkSound_setTr hl rfl ⟨txidx, idle, turn, hn', hrest, h5, h255⟩)

/-- The Transport's part of a tick (R25, R191, R197). -/
theorem transportTick_inv {s : State} (hc : CfgFacts s.cfg) (h : Inv s) (rxd : Bool) (item : Option LinkItem) :
    Inv (transportTick s item (countedTick rxd s)) := by
  have hu := countedTick_inv hc h rxd
  have hcu := cfgFacts_of_pollFrame (countedTick_frame rxd s) hc
  have hl := inv_link hu hcu
  obtain ⟨i, _, htr⟩ := countedTick_tr rxd s
  have hphase : (countedTick rxd s).tr.phase = s.tr.phase := by rw [htr]
  obtain ⟨tr, urx, listens, rxDir, turnDir, txDir, interval⟩ := hl.line
  cases hp : s.tr.phase <;> simp only [transportTick, hp] <;> rw [hp] at hphase
  case idle | gap | tx => exact hu
  case done =>
    refine inv_of_sendFrame hu (setTr_frame _ _) ⟨hl.cfg, ⟨tr, urx, ?_, nofun, nofun, nofun, interval⟩, hl.sender⟩
    rw [hphase] at listens
    exact ⟨fun he => absurd (listens.1 he) nofun, nofun⟩
  case turn =>
    obtain ⟨txidx, idle, _, rest⟩ := tr
    exact inv_of_sendFrame hu (setTr_frame _ _) (linkSound_setTr hl rfl ⟨txidx, idle, Nat.min_le_left _ _, rest⟩)
  case flush =>
    split
    · exact hu
    · rename_i hbusy
      have hb : s.utx.busy = false := by simpa using hbusy
      exact inv_of_sendFrame hu (releaseDir_frame _) (releaseDir_sound hl (by rw [countedTick_utx]; exact utxTick_idle _ hb))
  case rx =>
    exact receptionTick_inv hcu hu item (countedTick_cfg rxd s) (by rw [htr]) (by rw [htr])
      (countedTick_rxlen rxd s)

theorem tickWith_inv {s : State} (hc : CfgFacts s.cfg) (h : Inv s) (rxd : Bool) : Inv (tickWith rxd s) :=
  transportTick_inv hc h rxd _

theorem lineTicks_inv (n : Nat) {s : State} (hc : CfgFacts s.cfg) (h : Inv s) : Inv (lineTicks n s) := by
  induction n generalizing s with
  | zero => exact h
  | succ n ih => exact ih (cfgFacts_of_pollFrame (tickWith_frame (rxdPort s) s) hc) (tickWith_inv hc h _)

theorem levelsOnLine_inv (levels : List Bool) {s : State} (hc : CfgFacts s.cfg) (h : Inv s) : Inv (levelsOnLine levels s) :=
  lineTicks_inv _ (s := s.setEnv _) hc (inv_setEnv h _)

theorem dividerTick_div {c : Cfg} (hc : CfgFacts c) (u : UiClock) : (dividerTick c u).div < c.uiTickTicks := by
  unfold dividerTick
  split
  · exact hc.uiTickTicks
  · exact Nat.not_le.1 ‹_›

theorem tick_inv {s : State} (hc : CfgFacts s.cfg) (h : Inv s) : Inv (tick s) := by
  have hcfg := (tickWith_frame (rxdPort s) s).cfg
  exact inv_setUi (tickWith_inv hc h _) (by rw [hcfg]; exact dividerTick_div hc s.ui)

end Sys2Proof.Proofs
end

section
/-! SUPPORT. The moves of the poll agent and the ui tick keep the invariant. -/

namespace Sys2Proof.Proofs

open Sys2Proof.Machine Sys2Proof.Laws

/-- If an outcome goes on, the state it goes on in satisfies `P`. -/
def NextSat (P : State → Prop) (o : Host.Outcome State Fault Refusal) : Prop := ∀ t, o = .next t → P t

section
variable {P : State → Prop}

theorem nextSat_next {s : State} (h : P s) : NextSat P (.next s) := by
  rintro t ⟨⟩
  exact h

theorem nextSat_fault (e : Fault) : NextSat P (.fault e) := by
  rintro t ⟨⟩

theorem nextSat_refused (e : Refusal) : NextSat P (.refused e) := by
  rintro t ⟨⟩

end

/-! ### The master's registers -/

theorem inv_setMst {s : State} (h : Inv s) (hc : CfgFacts s.cfg) {m : Mst} (hm : MstOk s.cfg m) : Inv (s.setMst m) := by
  have ⟨_, _, interval, _⟩ := hm
  have hl := linkSound_setMst (inv_link h hc) interval
  have hu := inv_ui h
  exact (inv_iff _).2 ⟨hl.line, hl.sender, hm, h.buffers, hu⟩

/-- A phase other than BACKOFF is entered with the result that phase asks for (R11, R28, R248). -/
theorem inv_setMstPhase {s : State} (h : Inv s) (hc : CfgFacts s.cfg) {p : MstPhase} (hconv : p = .convert → s.mst.result = 0)
    (hrep : p = .report → s.mst.result ≠ 3) : Inv (s.setMstPhase p) := by
  obtain ⟨attempt, _, interval, _⟩ := h.mst
  exact inv_setMst h hc ⟨attempt, Nat.zero_le _, interval, fun _ => rfl, hconv, hrep, fun _ => rfl⟩

theorem startCycle_inv {s : State} (hc : CfgFacts s.cfg) (h : Inv s) (hp : s.mst.phase = .wait) : Inv (startCycle s) := by
  obtain ⟨attempt, backoff, _, rest, _, _, held⟩ := h.mst
  exact inv_setMst h hc ⟨attempt, backoff, Nat.zero_le _, fun _ => rest (by rw [hp]; nofun), nofun, nofun,
    fun _ => held (by rw [hp]; nofun)⟩

theorem startTransaction_inv {s : State} (hc : CfgFacts s.cfg) (h : Inv s) : Inv (startTransaction s) := by
  have hg : Inv (s.enterPhase .gap) :=
    inv_of_sendFrame h (enterPhase_frame s .gap) (enterPhase_sound (inv_link h hc) (by decide) (by decide) (by decide))
  obtain ⟨attempt, backoff, interval, rest, result, report, _⟩ := hg.mst
  exact inv_setMst hg hc ⟨attempt, backoff, interval, rest, result, report, fun _ => rfl⟩

/-- In phase TRANSACT an attempt begins, or is held back (log 38). -/
theorem beginAttempt_inv {s : State} (hc : CfgFacts s.cfg) (h : Inv s) (hp : s.mst.phase = .transact) :
    Inv (beginAttempt s) := by
  rcases beginAttempt_cases s with ⟨_, e⟩ | ⟨_, e⟩ <;> rw [e]
  · obtain ⟨attempt, backoff, interval, rest, result, report, _⟩ := h.mst
    exact inv_setMst h hc ⟨attempt, backoff, interval, rest, result, report, fun hne => absurd hp hne⟩
  · exact startTransaction_inv hc h

theorem encodeRequest_inv (slave : Byte) (start n : U16) {s : State} (hc : CfgFacts s.cfg) (h : Inv s) :
    Inv (encodeRequest slave start n s) :=
  inv_of_pollFrame h (encodeRequest_frame slave start n s) (encodeRequest_linkSound slave start n (inv_link h hc)) h.mst
    (encodeRequest_buffersOk slave start n h.buffers)

theorem encodeMove_inv {s : State} (hc : CfgFacts s.cfg) (h : Inv s) (hp : s.mst.phase = .encode) : Inv (encodeMove s) := by
  have he := encodeRequest_inv s.cfg.slaveId s.cfg.startReg (countOperand s.cfg) hc h
  obtain ⟨_, backoff, interval, rest, _⟩ := h.mst
  refine beginAttempt_inv hc (inv_setMst he hc ⟨Nat.zero_le _, backoff, interval, fun _ => rest ?_, nofun, nofun, ?_⟩) rfl
  · rw [hp]; nofun
  · exact fun hne => absurd rfl hne

theorem backoffMove_inv {s : State} (hc : CfgFacts s.cfg) (h : Inv s) : Inv (beginAttempt (returnFromError s)) := by
  obtain ⟨attempt, _, interval, _⟩ := h.mst
  exact beginAttempt_inv hc (inv_setMst h hc ⟨attempt, Nat.zero_le _, interval, fun _ => rfl, nofun, nofun,
    fun hne => absurd rfl hne⟩) rfl

/-! ### The end of an attempt -/

/-- The code of a poll's result is one of R352, and 0 exactly on the way to CONVERT. -/
theorem endPoll_inv {s : State} (hc : CfgFacts s.cfg) (h : Inv s) (hb : s.mst.backoffCnt = 0) (hh : s.mst.held = false)
    (r : PollResult) : Inv (endPoll r s) := by
  obtain ⟨attempt, backoff, interval, _⟩ := h.mst
  cases r with
  | ok f => exact inv_setMst h hc ⟨attempt, backoff, interval, fun _ => hb, fun _ => rfl, nofun, fun _ => hh⟩
  | err e =>
    have hcode : pollCode (.err e) ≠ 3 := by cases e <;> decide
    exact inv_setMst h hc ⟨attempt, backoff, interval, fun _ => hb, nofun, fun _ => hcode, fun _ => hh⟩

/-- Success, rejection, another try within the limit, or giving up (R242, R244). -/
theorem afterAttempt_inv {s : State} (hc : CfgFacts s.cfg) (h : Inv s) (hb : s.mst.backoffCnt = 0) (hh : s.mst.held = false)
    (o : AttemptResult) : Inv (afterAttempt o s) := by
  unfold afterAttempt
  split
  · exact endPoll_inv hc h hb hh _
  · exact endPoll_inv hc h hb hh _
  · split
    · obtain ⟨_, _, interval, _⟩ := h.mst
      exact inv_setMst h hc ⟨‹_›, Nat.zero_le _, interval, fun _ => rfl, nofun, nofun, fun _ => hh⟩
    · exact endPoll_inv hc h hb hh _

theorem takeResult_inv {s : State} (hc : CfgFacts s.cfg) (h : Inv s) (hp : s.mst.phase = .transact) (hh : s.mst.held = false) :
    NextSat Inv (takeResult s) := by
  obtain ⟨_, _, _, rest, _⟩ := h.mst
  unfold takeResult
  split
  · exact nextSat_fault _
  · split
    · exact nextSat_next (inv_setMstPhase h hc nofun nofun)
    · exact nextSat_next (afterAttempt_inv hc h (rest (by rw [hp]; nofun)) hh _)

theorem decodeMove_inv {s : State} (hc : CfgFacts s.cfg) (h : Inv s) (hp : s.mst.phase = .decode) :
    NextSat Inv (decodeMove s) := by
  unfold decodeMove
  split
  · exact nextSat_fault _
  · rename_i bytes _
    have hd := decodeInto_inv bytes s.cfg.slaveId (countOperand s.cfg) h
    obtain ⟨_, _, _, rest, _, _, held⟩ := h.mst
    obtain ⟨_, _, _, e⟩ := decodeInto_eq bytes s.cfg.slaveId (countOperand s.cfg) s
    refine nextSat_next (afterAttempt_inv ?_ hd ?_ ?_ _) <;> rw [e]
    · exact hc
    · exact rest (by rw [hp]; nofun)
    · exact held (by rw [hp]; nofun)

theorem convertMove_inv {s : State} (hc : CfgFacts s.cfg) (h : Inv s) (hp : s.mst.phase = .convert) :
    NextSat Inv (convertMove s) := by
  obtain ⟨_, _, _, _, result, _⟩ := h.mst
  unfold convertMove
  split
  · exact nextSat_fault _
  · unfold convertPublish
    split
    · rename_i m alert _
      have hpub := inv_publish (inv_setFrame h s.crc s.regframe false) m alert
      have hresult : s.mst.result ≠ 3 := by rw [result hp]; decide
      exact nextSat_next (inv_setMstPhase hpub hc nofun fun _ => hresult)
    · exact nextSat_fault _

/-! ### The moves -/

/-- The transmitter that is free takes the next request byte in phase TX, where the direction is at transmit (R195). -/
theorem handByte_inv {s : State} (hc : CfgFacts s.cfg) (h : Inv s) (d : Byte) (hp : s.tr.phase = .tx) (hn : s.tr.txidx < 8) :
    Inv (handByte d s) := by
  have hl := inv_link h hc
  have hload := loadChar_sound hl (hl.line.txDir hp) d
  have hidx : (loadChar d s).tr.txidx + 1 ≤ 8 := by rw [loadChar_tr]; exact hn
  have f := loadChar_frame d s
  unfold handByte
  dsimp only
  generalize loadChar d s = w at *
  obtain ⟨_, rest⟩ := hload.line.tr
  have hk := linkSound_setTr (v := { w.tr with txidx := w.tr.txidx + 1 }) hload rfl ⟨hidx, rest⟩
  have fk := sendFrame_trans f (setTr_frame w { w.tr with txidx := w.tr.txidx + 1 })
  split
  · exact inv_of_sendFrame h (sendFrame_trans fk (enterPhase_frame _ .flush))
      (enterPhase_sound hk (by decide) (by decide) (by decide))
  · exact inv_of_sendFrame h fk hk

theorem enterPhase_inv {s : State} (hc : CfgFacts s.cfg) (h : Inv s) {p : TrPhase} (hrx : p ≠ .rx) (hturn : p ≠ .turn)
    (htx : p ≠ .tx) : Inv (s.enterPhase p) :=
  inv_of_sendFrame h (enterPhase_frame s p) (enterPhase_sound (inv_link h hc) hrx hturn htx)

theorem assertDir_inv {s : State} (hc : CfgFacts s.cfg) (h : Inv s) : Inv (assertDir s) :=
  inv_of_sendFrame h (assertDir_frame s) (assertDir_sound (inv_link h hc))

theorem transactMove_inv {s : State} (hc : CfgFacts s.cfg) (h : Inv s) (hp : s.mst.phase = .transact)
    {o : Host.Outcome State Fault Refusal} (ho : transactMove s = some o) : NextSat Inv o := by
  have hl := inv_link h hc
  rcases transactMove_cases s ho with ⟨_, rfl⟩ | ⟨_, _, rfl⟩ | ⟨_, _, _, rfl⟩ | ⟨d, htx, _, hn, _, rfl⟩ | ⟨_, _, _, _, rfl⟩ |
    ⟨hturn, _, rfl⟩ | ⟨_, _, rfl⟩ | ⟨_, hh, rfl⟩
  · exact nextSat_next (startTransaction_inv hc h)
  · exact nextSat_next (assertDir_inv hc h)
  · exact nextSat_next (enterPhase_inv hc h (by decide) (by decide) (by decide))
  · exact nextSat_next (handByte_inv hc h d htx hn)
  · exact nextSat_fault _
  · exact nextSat_next (inv_of_linkFrame h (receiveEnable_frame s) (receiveEnable_sound hl (hl.line.turnDir hturn))
      (receiveEnable_receivedOk s))
  · exact nextSat_next (enterPhase_inv hc h (by decide) (by decide) (by decide))
  · exact takeResult_inv hc h hp hh

theorem pollMove_inv {s : State} (hc : CfgFacts s.cfg) (h : Inv s) {o : Host.Outcome State Fault Refusal}
    (ho : pollMove s = some o) : NextSat Inv o := by
  rcases pollMove_cases s ho with ⟨hp, _, rfl⟩ | ⟨hp, rfl⟩ | ⟨hp, ho⟩ | ⟨hp, rfl⟩ | ⟨_, _, rfl⟩ | ⟨hp, rfl⟩ | ⟨_, rfl⟩
  · exact nextSat_next (startCycle_inv hc h hp)
  · exact nextSat_next (encodeMove_inv hc h hp)
  · exact transactMove_inv hc h hp ho
  · exact decodeMove_inv hc h hp
  · exact nextSat_next (backoffMove_inv hc h)
  · exact convertMove_inv hc h hp
  · exact nextSat_next (reportPoll_inv (inv_poll hc h) (inv_ui h))

theorem uiMove_inv {s : State} (hc : CfgFacts s.cfg) (h : Inv s) : Inv (uiMove s) := by
  have ht := uiTick_inv (rawOperand s) hc h
  have hclock : Inv ((uiTick (rawOperand s) s).setUi { (uiTick (rawOperand s) s).ui with due := false }) :=
    inv_setUi ht ht.ui
  exact inv_setEnv hclock _

/-- The block's own step (R361, R368). -/
theorem autoStep_inv {s : State} (hc : CfgFacts s.cfg) (h : Inv s) : NextSat Inv (autoStep s) := by
  have hd : Inv (dropDraw s) := inv_setEnv h _
  rcases autoStep_cases s with ⟨_, _, e⟩ | ⟨_, _, e⟩ | ⟨o, ho, _, e⟩ | ⟨_, _, _, _, e⟩ | ⟨_, _, _, _, e⟩ <;> rw [e]
  · exact nextSat_next (tick_inv hc h)
  · exact nextSat_next (uiMove_inv hc h)
  · exact pollMove_inv hc h ho
  · exact nextSat_next (uiMove_inv hc hd)
  · cases ho : pollMove (dropDraw s) with
    | none => exact nextSat_next (uiMove_inv hc hd)
    | some o => exact pollMove_inv (s := dropDraw s) hc hd ho

end Sys2Proof.Proofs
end

section
/-! SUPPORT. Every instruction and every step keep the invariant. -/

namespace Sys2Proof.Proofs

open Sys2Proof.Machine Sys2Proof.Laws

/-! ### The operands of TR.TRANSACT -/

/-- A TR.TRANSACT carries eight request bytes and a maximum length in 5..255 (R190, R25). -/
def TransactFits : Instr → Prop
  | .trTransact req m => req.length = 8 ∧ 5 ≤ m ∧ m ≤ 255
  | _ => True

theorem opBytes_length (ops : List Byte) (i k : Nat) : (opBytes ops i k).length = k := by
  simp [opBytes]

theorem decodeDone_fits {ops : List Byte} {k : Nat} {i j : Instr} (h : decodeDone ops k i = .ok j) (hi : TransactFits i) :
    TransactFits j := by
  unfold decodeDone at h
  split at h <;> cases h
  exact hi

theorem decodePublish_fits {ops : List Byte} {i : Instr} (h : decodePublish ops = .ok i) : TransactFits i := by
  unfold decodePublish at h
  split at h
  · exact decodeDone_fits h trivial
  · cases h

theorem decodeOp_fits {id : Byte} {ops : List Byte} {i : Instr} (h : decodeOp id ops = .ok i) : TransactFits i := by
  unfold decodeOp at h
  split at h
  case h_9 =>
    split at h
    · exact decodeDone_fits h ⟨opBytes_length ops 1 8, by omega, by omega⟩
    · cases h
  case h_21 => exact decodePublish_fits h
  case h_29 => cases h
  case h_3 | h_22 | h_28 =>
    split at h
    · exact decodeDone_fits h trivial
    · cases h
  case h_23 =>
    dsimp only at h
    split at h
    · exact decodeDone_fits h trivial
    · cases h
  all_goals exact decodeDone_fits h trivial

/-- No frame is a TR.TRANSACT. -/
theorem decodeFrame_fits {bs : List Byte} {i : Instr} (h : decodeFrame bs = .ok i) : TransactFits i := by
  unfold decodeFrame at h
  dsimp only at h
  repeat' split at h
  all_goals cases h
  all_goals trivial

/-- No character is a TR.TRANSACT. -/
theorem decodeChar_fits {f : CharFormat} {levels : List Bool} {i : Instr} (h : decodeChar f levels = .ok i) :
    TransactFits i := by
  unfold decodeChar at h
  dsimp only at h
  repeat' split at h
  all_goals cases h
  all_goals trivial

theorem decode_fits {w : StreamWord} {i : Instr} (h : decode w = .ok i) : TransactFits i := by
  unfold decode at h
  split at h
  · cases h
  · exact decodeOp_fits h
  · exact decodeFrame_fits h
  · exact decodeChar_fits h

/-! ### The instructions -/

/-- Consuming the frame leaves the state sound (R271). -/
theorem execSpConvert_inv {s : State} (h : Inv s) (f : FrameRef) : NextSat Inv (execSpConvert f s) := by
  unfold execSpConvert
  split
  · exact nextSat_fault _
  · split
    · exact nextSat_next (inv_setRes (inv_setFrame h s.crc s.regframe false) _)
    · exact nextSat_fault _

theorem readSnapshot_inv {s : State} (h : Inv s) : Inv (readSnapshot s) :=
  inv_setOut (o := { s.out with meas := intentMeasurement s.snap }) h h.outputs.2

section
variable {s : State} (hc : CfgFacts s.cfg) (h : Inv s)
include hc h

theorem execTrTransact_inv {req : List Byte} {m : Nat} (hreq : req.length = 8) (h5 : 5 ≤ m) (h255 : m ≤ 255) :
    NextSat Inv (execTrTransact req m s) := by
  obtain ⟨hl, hr⟩ := transact_sound hreq h5 h255 (inv_link h hc)
  exact nextSat_next (inv_setRes (inv_of_linkFrame h (transact_frame req m s) hl hr) _)

theorem execTrWrite_inv : NextSat Inv (execTrWrite s) := by
  unfold execTrWrite
  split
  · rename_i req hreq
    have hlen : req.length = 8 := (read_of_readN hreq).1
    exact nextSat_next (inv_setRes (inv_of_sendFrame h (writeRequest_frame req s) (writeRequest_sound hlen (inv_link h hc))) _)
  · exact nextSat_fault _

theorem execTrRead_inv : NextSat Inv (execTrRead s) := by
  unfold execTrRead
  split
  · exact nextSat_fault _
  · have hd := drain_sound (inv_link h hc)
    obtain ⟨_, _, _, _, _, h5, h255⟩ := hd.line.tr
    have f := linkFrame_trans (drain_frame s).toLinkFrame (readResponse_frame (drain s).tr.maxLen (drain s))
    exact nextSat_next (inv_setRes
      (inv_of_linkFrame h f (readResponse_sound hd (drain s).tr.maxLen) (readResponse_receivedOk h5 h255 _)) _)

theorem execReq_inv (slave : Byte) (start count : U16) (crcLo crcHi : Byte) :
    NextSat Inv (execReq slave start count crcLo crcHi s) := by
  have f := sendFrame_trans (assertDir_frame s) (sendFrame_trans
    (writeRequest_frame (reqBytes slave start count crcLo crcHi) _) (flushTx_frame _))
  have hl := flushTx_sound (writeRequest_sound (reqBytes_length slave start count crcLo crcHi) (assertDir_sound (inv_link h hc)))
  exact nextSat_next (inv_setRes (inv_of_sendFrame h f hl) _)

theorem execMstPoll_inv (slave : Byte) (start n : U16) : NextSat Inv (execMstPoll slave start n s) := by
  unfold execMstPoll
  split
  · rename_i hv
    obtain ⟨_, _, _, hn, _⟩ := (validPoll_iff s.cfg slave start n).1 hv
    have hp := poll_sound slave start (hn.trans hc.maxCount) (inv_poll hc h)
    have hu := uiSound_of_pollFrame h (poll_frame slave start n s)
    exact nextSat_next (inv_setRes (inv_setMstPhase_wait hp hu) _)
  · exact nextSat_refused _

theorem execMstCycle_inv : NextSat Inv (execMstCycle s) := by
  have hn : (countOperand (awaitInterval s).cfg).toNat ≤ 125 := by
    have ha := cfgFacts_of_pollFrame (awaitInterval_frame s) hc
    rw [countOperand_toNat ha]
    exact ha.countHi.trans ha.maxCount
  have hp := poll_sound (awaitInterval s).cfg.slaveId (awaitInterval s).cfg.startReg hn (awaitInterval_pollSound (inv_poll hc h))
  have hu := uiSound_of_pollFrame h (pollFrame_trans (awaitInterval_frame s) (poll_frame (awaitInterval s).cfg.slaveId
    (awaitInterval s).cfg.startReg (countOperand (awaitInterval s).cfg) (awaitInterval s)))
  unfold execMstCycle
  dsimp only
  split
  · obtain ⟨ht, htu⟩ := afterPoll_sound hp hu ‹_›
    exact nextSat_next (inv_setRes (reportPoll_inv ht htu) _)
  · exact nextSat_fault _
  · exact nextSat_refused _

theorem execDsmBtnMedia_inv (i : Nat) : NextSat Inv (execDsmBtnMedia i s) := by
  unfold execDsmBtnMedia
  split
  · rename_i hi
    exact nextSat_next (inv_setRes (inv_setDisp h (dispOk_media hc (of_decide_eq_true hi))) _)
  · exact nextSat_refused _

/-- A format row lets levels pass on the line (log 4). -/
theorem levels_nextSat (levels : List Bool) : NextSat Inv (.next ((levelsOnLine levels s).setRes .none)) :=
  nextSat_next (inv_setRes (levelsOnLine_inv levels hc h) _)

/-- Every instruction a word can carry keeps a sound state sound. -/
theorem exec_inv {i : Instr} (hi : TransactFits i) : NextSat Inv (exec i s) := by
  have hl := inv_link h hc
  cases i with
  | reset => exact nextSat_next (resetOf_inv hc s.env)
  | crcInit => exact nextSat_next (inv_setRes (inv_setFrame h _ s.regframe s.regframeValid) _)
  | crcBit b => exact nextSat_next (inv_setRes (inv_setFrame h _ s.regframe s.regframeValid) _)
  | crcUpd d => exact nextSat_next (inv_setRes (inv_setFrame h _ s.regframe s.regframeValid) _)
  | crcGet => exact nextSat_next (inv_setRes h _)
  | crcChk lo hi => exact nextSat_next (inv_setRes h _)
  | encRdreq slave start count => exact nextSat_next (inv_setRes (encodeRequest_inv slave start count hc h) _)
  | decResp buf slave count => exact nextSat_next (inv_setRes (decodeInto_inv buf slave count h) _)
  | trTransact request m =>
    obtain ⟨hreq, h5, h255⟩ := hi
    exact execTrTransact_inv hc h hreq h5 h255
  | trGap => exact nextSat_next (inv_setRes (inv_of_sendFrame h (waitGap_frame s) (waitGap_sound hl)) _)
  | trTxen => exact nextSat_next (inv_setRes (assertDir_inv hc h) _)
  | trWrite => exact execTrWrite_inv hc h
  | trFlush => exact nextSat_next (inv_setRes (inv_of_sendFrame h (flushTx_frame s) (flushTx_sound hl)) _)
  | trRxen =>
    exact nextSat_next (inv_setRes
      (inv_of_linkFrame h (enableReceive_frame s) (enableReceive_sound hl) (receiveEnable_receivedOk _)) _)
  | trRead => exact execTrRead_inv hc h
  | uartTxchar d => exact nextSat_next (inv_setRes (inv_of_sendFrame h (sendChar_frame d s) (sendChar_sound hl d)) _)
  | uartRxchar => exact nextSat_next (inv_setRes (inv_of_sendFrame h (receiveChar_frame s) (receiveChar_sound hl)) _)
  | mstPoll slave start count => exact execMstPoll_inv hc h slave start count
  | mstCycle => exact execMstCycle_inv hc h
  | spConvert f => exact execSpConvert_inv h f
  | spPublish m alert => exact nextSat_next (inv_setRes (inv_publish h m alert) _)
  | dbSample p r => exact nextSat_next (inv_setRes (inv_setDb h (samplePinIn_dbOk hc p r h.db)) _)
  | uiTick raw => exact nextSat_next (inv_setRes (uiTick_inv raw hc h) _)
  | dsmTick => exact nextSat_next (inv_setRes (inv_setDisp h (dwellTick_dispOk hc h.disp)) _)
  | dsmBtnMedia index => exact execDsmBtnMedia_inv hc h index
  | dsmBtnSensor => exact nextSat_next (inv_setRes (inv_setDisp h (dispOk_sensor hc)) _)
  | dsmMeas => exact nextSat_next (inv_setRes (readSnapshot_inv h) _)
  | blkTick a => exact nextSat_next (inv_setRes (inv_setBlink h (blinkTick_blinkOk hc a s.blink)) _)
  | req slave start count crcLo crcHi => exact execReq_inv hc h slave start count crcLo crcHi
  | rsp slave func regs crcLo crcHi => exact levels_nextSat hc h _
  | exc slave func code crcLo crcHi => exact levels_nextSat hc h _
  | char8N1 d => exact levels_nextSat hc h _
  | char8P1 d p => exact levels_nextSat hc h _
  | char8N2 d => exact levels_nextSat hc h _
  | char8P2 d p => exact levels_nextSat hc h _

end

/-! ### The step -/

/-- A word that `rst` cuts short leaves a state after reset (R400). -/
theorem cutByRst_inv {s : State} (hc : CfgFacts s.cfg) {o : Host.Outcome State Fault Refusal} (ho : NextSat Inv o) :
    NextSat Inv (cutByRst s o) := by
  cases o with
  | next t =>
    rcases cutByRst_next s t with ⟨_, e⟩ | ⟨_, _, _, _, e⟩ <;> rw [e]
    · exact ho
    · exact nextSat_next (resetOf_inv hc _)
  | fault e => exact nextSat_fault e
  | refused e => exact nextSat_refused e

theorem step_inv {s : State} (h : Inv s) : NextSat Inv (step s) := by
  unfold step
  split
  · rename_i hwf
    have hc := (cfgWf_iff s.cfg).1 hwf
    split
    · exact nextSat_next (resetOf_inv hc _)
    · split
      · exact autoStep_inv hc h
      · have ht : Inv (takeWord s) := inv_setEnv h _
        split
        · exact cutByRst_inv (s := takeWord s) hc (exec_inv (s := takeWord s) hc ht (decode_fits ‹_›))
        · exact nextSat_refused _
  · exact nextSat_refused _

/-- Settles O8: the step is a reset, a move or tick of the block, or an instruction, and each keeps the invariant. -/
theorem everyStepKeepsTheInvariant : Obligations.EveryStepKeepsTheInvariant :=
  fun _ t h hstep => step_inv h t hstep

end Sys2Proof.Proofs
end

section
/-! SUPPORT. Who may write what (10_state.md R42): which elements each operation leaves alone. -/

namespace Sys2Proof.Proofs

open Sys2Proof.Machine Sys2Proof.Laws

/-- What the request and its answer stand in: the CRC register, the request buffer, the register frame. -/
structure CodecKept (s t : State) : Prop where
  crc : t.crc = s.crc
  tx : t.tx = s.tx
  regframe : t.regframe = s.regframe
  regframeValid : t.regframeValid = s.regframeValid

theorem codecKept_of_linkFrame {s t : State} (f : LinkFrame s t) : CodecKept s t :=
  ⟨f.crc, f.tx, f.regframe, f.regframeValid⟩

theorem codecKept_trans {s t u : State} (h : CodecKept s t) (k : CodecKept t u) : CodecKept s u :=
  ⟨k.crc.trans h.crc, k.tx.trans h.tx, k.regframe.trans h.regframe, k.regframeValid.trans h.regframeValid⟩

/-- A tick is no business of the codec: the Transport's part is a link frame, and the UART, the counters and the time are
not its elements. -/
theorem tickWith_codecKept (rxd : Bool) (s : State) : CodecKept s (tickWith rxd s) := by
  have hu := uartTick_frame rxd s
  have hcounted : CodecKept s (countedTick rxd s) := ⟨hu.crc, hu.tx, hu.regframe, hu.regframeValid⟩
  rw [tickWith_eq]
  exact codecKept_trans hcounted (codecKept_of_linkFrame (transportTick_frame s _ _))

theorem lineTicks_codecKept (n : Nat) (s : State) : CodecKept s (lineTicks n s) := by
  induction n generalizing s with
  | zero => exact ⟨rfl, rfl, rfl, rfl⟩
  | succ n ih => exact codecKept_trans (tickWith_codecKept _ s) (ih _)

theorem codecKept_setEnv (s : State) (e : Env) : CodecKept s (s.setEnv e) := ⟨rfl, rfl, rfl, rfl⟩

theorem levelsOnLine_codecKept (levels : List Bool) (s : State) : CodecKept s (levelsOnLine levels s) :=
  codecKept_trans (codecKept_setEnv s _) (lineTicks_codecKept _ _)

/-! ### The families of R42 -/

/-- What the operations on the serial line leave alone. -/
abbrev LineWrites (s t : State) : Prop :=
  t.cfg = s.cfg ∧ t.snap = s.snap ∧ uiSide t = uiSide s ∧ t.crc = s.crc ∧ t.regframe = s.regframe ∧
    t.regframeValid = s.regframeValid ∧ ∀ a, Memory.read t.tx a = Memory.read s.tx a

/-- What the CRC unit, the codec and the conversion leave alone. -/
abbrev CodecWrites (s t : State) : Prop :=
  t.cfg = s.cfg ∧ t.snap = s.snap ∧ uiSide t = uiSide s ∧ t.uartTxd = s.uartTxd ∧ t.dirState = s.dirState ∧ t.utx = s.utx ∧
    t.urx = s.urx ∧ t.tr = s.tr

/-- What the UI operations leave alone. -/
abbrev UiWrites (s t : State) : Prop :=
  t.cfg = s.cfg ∧ t.snap = s.snap ∧ pollSide { t with res := s.res } = pollSide s

theorem lineWrites_of {s t : State} (f : PollFrame s t) (k : CodecKept s t) (r : OpResult) : LineWrites s (t.setRes r) :=
  ⟨f.cfg, f.snap, f.ui, k.crc, k.regframe, k.regframeValid, fun a => congrArg (Memory.read · a) k.tx⟩

/-- An operation that answers after a link frame. -/
theorem lineWrites_linkFrame {s t : State} (f : LinkFrame s t) (r : OpResult) : NextSat (LineWrites s) (.next (t.setRes r)) :=
  nextSat_next (lineWrites_of f.toPollFrame (codecKept_of_linkFrame f) r)

/-- A format row lets levels pass on the line (log 4). -/
theorem lineWrites_levels (levels : List Bool) (s : State) (r : OpResult) :
    NextSat (LineWrites s) (.next ((levelsOnLine levels s).setRes r)) :=
  nextSat_next (lineWrites_of (levelsOnLine_frame levels s) (levelsOnLine_codecKept levels s) r)

theorem execTrWrite_writes (s : State) : NextSat (LineWrites s) (execTrWrite s) := by
  unfold execTrWrite
  split
  · exact lineWrites_linkFrame (writeRequest_frame _ s).toLinkFrame _
  · exact nextSat_fault _

theorem execTrRead_writes (s : State) : NextSat (LineWrites s) (execTrRead s) := by
  unfold execTrRead
  split
  · exact nextSat_fault _
  · exact lineWrites_linkFrame (linkFrame_trans (drain_frame s).toLinkFrame (readResponse_frame _ _)) _

theorem execReq_writes (slave : Byte) (start count : U16) (crcLo crcHi : Byte) (s : State) :
    NextSat (LineWrites s) (execReq slave start count crcLo crcHi s) :=
  lineWrites_linkFrame
    (sendFrame_trans (assertDir_frame s) (sendFrame_trans (writeRequest_frame _ _) (flushTx_frame _))).toLinkFrame _

theorem execDecResp_writes (buf : List Byte) (slave : Byte) (n : U16) (s : State) :
    NextSat (CodecWrites s) (execDecResp buf slave n s) := by
  obtain ⟨_, _, _, e⟩ := decodeInto_eq buf slave n s
  refine nextSat_next ?_
  rw [e]
  exact ⟨rfl, rfl, rfl, rfl, rfl, rfl, rfl, rfl⟩

theorem execSpConvert_writes (f : FrameRef) (s : State) : NextSat (CodecWrites s) (execSpConvert f s) := by
  unfold execSpConvert
  split
  · exact nextSat_fault _
  · split
    · exact nextSat_next ⟨rfl, rfl, rfl, rfl, rfl, rfl, rfl, rfl⟩
    · exact nextSat_fault _

theorem execUiTick_writes (raw : List Bool) (s : State) : NextSat (UiWrites s) (execUiTick raw s) := by
  refine nextSat_next ?_
  rw [uiTick_eq]
  exact ⟨rfl, rfl, rfl⟩

theorem execDsmBtnMedia_writes (i : Nat) (s : State) : NextSat (UiWrites s) (execDsmBtnMedia i s) := by
  unfold execDsmBtnMedia
  split
  · exact nextSat_next ⟨rfl, rfl, rfl⟩
  · exact nextSat_refused _

/-- MST.POLL leaves the slot and the UI agent alone. -/
theorem execMstPoll_frame (slave : Byte) (start n : U16) (s : State) :
    NextSat (fun t => t.cfg = s.cfg ∧ t.snap = s.snap ∧ uiSide t = uiSide s) (execMstPoll slave start n s) := by
  have f := poll_frame slave start n s
  unfold execMstPoll
  split
  · exact nextSat_next ⟨f.cfg, f.snap, f.ui⟩
  · exact nextSat_refused _

/-- What follows a poll in its cycle writes of the UI agent's reach the slot only. -/
theorem afterPoll_frame {r : PollResult} {s t : State} (h : afterPoll r s = .next t) : t.cfg = s.cfg ∧ uiSide t = uiSide s := by
  cases r with
  | err e => cases h; exact ⟨rfl, rfl⟩
  | ok f =>
    unfold afterPoll convertPublish at h
    dsimp only at h
    split at h <;> cases h
    exact ⟨rfl, rfl⟩

/-- The report is none of the UI agent's business (R252). -/
theorem uiSide_report (s : State) (r : OpResult) : uiSide ((reportPoll s).setRes r) = uiSide s := by
  simp [uiSide]

theorem configuredPoll_frame (s : State) : PollFrame s (configuredPoll s).1 :=
  poll_frame s.cfg.slaveId s.cfg.startReg (countOperand s.cfg) s

/-- MST.CYCLE writes the slot, and leaves the UI agent alone. -/
theorem execMstCycle_frame (s : State) : NextSat (fun t => t.cfg = s.cfg ∧ uiSide t = uiSide s) (execMstCycle s) := by
  have f := pollFrame_trans (awaitInterval_frame s) (configuredPoll_frame (awaitInterval s))
  unfold execMstCycle
  dsimp only
  generalize configuredPoll (awaitInterval s) = r at *
  split
  · obtain ⟨hcfg, hui⟩ := afterPoll_frame ‹_›
    exact nextSat_next ⟨by rw [setRes_cfg, reportPoll_cfg, hcfg, f.cfg], by rw [uiSide_report, hui, f.ui]⟩
  · exact nextSat_fault _
  · exact nextSat_refused _

/-- Settles O11: each row of R42 by the family its operation belongs to. -/
theorem eachElementHasItsWriters : Obligations.EachElementHasItsWriters := by
  intro i s t h
  cases i with
  | reset =>
    cases h
    exact ⟨rfl, trivial⟩
  | crcInit | crcBit | crcUpd | crcGet | crcChk | encRdreq =>
    cases h
    exact ⟨rfl, rfl, rfl, rfl, rfl, rfl, rfl, rfl⟩
  | decResp buf slave count => exact execDecResp_writes buf slave count s t h
  | spConvert f => exact execSpConvert_writes f s t h
  | trTransact request m => exact lineWrites_linkFrame (transact_frame request m s) _ t h
  | trGap => exact lineWrites_linkFrame (waitGap_frame s).toLinkFrame _ t h
  | trTxen => exact lineWrites_linkFrame (assertDir_frame s).toLinkFrame _ t h
  | trWrite => exact execTrWrite_writes s t h
  | trFlush => exact lineWrites_linkFrame (flushTx_frame s).toLinkFrame _ t h
  | trRxen => exact lineWrites_linkFrame (enableReceive_frame s) _ t h
  | trRead => exact execTrRead_writes s t h
  | uartTxchar d => exact lineWrites_linkFrame (sendChar_frame d s).toLinkFrame _ t h
  | uartRxchar => exact lineWrites_linkFrame (receiveChar_frame s).toLinkFrame _ t h
  | mstPoll slave start count => exact execMstPoll_frame slave start count s t h
  | mstCycle => exact execMstCycle_frame s t h
  | spPublish m alert =>
    cases h
    exact ⟨rfl, rfl, rfl, rfl, rfl, rfl, rfl⟩
  | uiTick raw => exact execUiTick_writes raw s t h
  | dsmBtnMedia index => exact execDsmBtnMedia_writes index s t h
  | dbSample | dsmTick | dsmBtnSensor | dsmMeas | blkTick =>
    cases h
    exact ⟨rfl, rfl, rfl⟩
  | req slave start count crcLo crcHi => exact execReq_writes slave start count crcLo crcHi s t h
  | rsp | exc | char8N1 | char8P1 | char8N2 | char8P2 => exact lineWrites_levels _ s _ t h

end Sys2Proof.Proofs
end

section
/-! SUPPORT. The operand bytes of an operation word (log 2): what the byte accessors of the decoder find in a word the encoder
wrote. -/

namespace Sys2Proof.Proofs

open Sys2Proof.Laws

/-! ### Numbers as bytes -/

@[simp] theorem beBytes_length (k n : Nat) : (beBytes k n).length = k := by
  induction k with
  | zero => rfl
  | succ k ih => rw [beBytes, List.length_cons, ih]

/-- Each byte shifts what stands before it, so bytes in a row add the number they represent. -/
theorem foldl_beBytes (k n acc : Nat) :
    (beBytes k n).foldl (fun acc b => acc * 256 + b.toNat) acc = acc * 256 ^ k + n % 256 ^ k := by
  induction k generalizing acc with
  | zero => simp [beBytes, Nat.mod_one]
  | succ k ih =>
    rw [beBytes, List.foldl_cons, ih, Nat.mod_pow_succ, BitVec.toNat_ofNat]
    ring

theorem beNat_beBytes {k n : Nat} (h : n < 256 ^ k) : beNat (beBytes k n) = n := by
  rw [beNat, foldl_beBytes, Nat.mod_eq_of_lt h, Nat.zero_mul, Nat.zero_add]

/-- `k` bytes stand for a number below `256 ^ k`. -/
theorem beNat_lt (bs : List Byte) : beNat bs < 256 ^ bs.length := by
  have bound : ∀ acc, bs.foldl (fun acc b => acc * 256 + b.toNat) acc < (acc + 1) * 256 ^ bs.length := by
    induction bs with
    | nil => simp
    | cons b bs ih =>
      intro acc
      have hb := b.isLt
      calc (b :: bs).foldl (fun acc b => acc * 256 + b.toNat) acc < (acc * 256 + b.toNat + 1) * 256 ^ bs.length := ih _
        _ ≤ (acc + 1) * 256 * 256 ^ bs.length := Nat.mul_le_mul_right _ (by omega)
        _ = (acc + 1) * 256 ^ (b :: bs).length := by rw [List.length_cons, Nat.pow_succ]; ring
  exact (bound 0).trans_eq (by rw [Nat.zero_add, Nat.one_mul])

/-! ### Operands by position -/

@[simp] theorem opByte_cons_zero (b : Byte) (bs : List Byte) : opByte (b :: bs) 0 = b := rfl

@[simp] theorem opByte_cons_succ (b : Byte) (bs : List Byte) (i : Nat) : opByte (b :: bs) (i + 1) = opByte bs i := rfl

theorem opByte_append_right (pre bs : List Byte) {i : Nat} (h : pre.length ≤ i) :
    opByte (pre ++ bs) i = opByte bs (i - pre.length) :=
  List.getD_append_right pre bs 0 i h

/-- A 16-bit operand written high byte first is read back (R97). -/
@[simp] theorem opU16_hi_lo (v : U16) (bs : List Byte) : opU16 (hiByte v :: loByte v :: bs) 0 = v := beU16_hi_lo v

@[simp] theorem opU16_cons_succ (b : Byte) (bs : List Byte) (i : Nat) : opU16 (b :: bs) (i + 1) = opU16 bs i := rfl

@[simp] theorem opBytes_cons_succ (b : Byte) (bs : List Byte) (i k : Nat) : opBytes (b :: bs) (i + 1) k = opBytes bs i k := rfl

theorem opBytes_append_right {pre : List Byte} (bs : List Byte) {i : Nat} (h : pre.length ≤ i) (k : Nat) :
    opBytes (pre ++ bs) i k = opBytes bs (i - pre.length) k := by
  simp [opBytes, List.drop_append, List.drop_eq_nil_of_le h]

/-- An operand that stands whole in the word is read whole. -/
theorem opBytes_append_left {bs : List Byte} {k : Nat} (h : bs.length = k) (rest : List Byte) :
    opBytes (bs ++ rest) 0 k = bs := by
  subst h
  simp [opBytes]

theorem opBytes_self {bs : List Byte} {k : Nat} (h : bs.length = k) : opBytes bs 0 k = bs := by
  subst h
  simp [opBytes]

/-- Nothing follows the last operand. -/
theorem decodeDone_of_length_le {ops : List Byte} {used : Nat} (h : ops.length ≤ used) (i : Instr) :
    decodeDone ops used i = .ok i := by
  rw [decodeDone, List.drop_eq_nil_of_le h]
  rfl

theorem opBool_boolByte (b : Bool) : opBool (boolByte b) = some b := by cases b <;> rfl

theorem boolByte_eq_one (b : Bool) : (boolByte b == 1) = b := by cases b <;> rfl

theorem boolByte_isBit (b : Bool) : (boolByte b == 0 || boolByte b == 1) = true := by cases b <;> rfl

/-! ### Numbers of the sample pipeline -/

@[simp] theorem encodeNum_length (n : Num) : (encodeNum n).length = 17 := by cases n <;> simp [encodeNum]

theorem decodeNum_encodeNum {n : Num} (h : n.wf = true) : decodeNum (encodeNum n) = some n := by
  cases n with
  | rational q =>
    simp only [Num.wf, Bool.and_eq_true, decide_eq_true_eq] at h
    obtain ⟨⟨hlo, hhi⟩, hden⟩ := h
    have hnumBytes : beNat (beBytes 8 (BitVec.ofInt 64 q.num).toNat) = (BitVec.ofInt 64 q.num).toNat :=
      beNat_beBytes (BitVec.ofInt 64 q.num).isLt
    have hdenBytes : beNat (beBytes 8 (q.den - 1)) + 1 = q.den := by
      have hpos := q.den_pos
      rw [beNat_beBytes (by omega)]
      omega
    have hnumerator : (BitVec.ofInt 64 q.num).toInt = q.num := BitVec.toInt_ofInt_eq_self (by decide) hlo hhi
    have hq : mkRat q.num q.den = q := Rat.mkRat_self q
    have hnum : ((encodeNum (.rational q)).drop 1).take 8 = beBytes 8 (BitVec.ofInt 64 q.num).toNat := by
      simp [encodeNum]
    have hden' : ((encodeNum (.rational q)).drop 9).take 8 = beBytes 8 (q.den - 1) := by
      simp [encodeNum]
    have hkind : opByte (encodeNum (.rational q)) 0 = 0 := rfl
    simp only [decodeNum, hnum, hden', hkind, hnumBytes, hdenBytes, BitVec.ofNat_toNat, BitVec.setWidth_eq,
      hnumerator, hq, and_self, if_true]
  | coded n =>
    have hn : n < 256 ^ 16 := by simpa [Num.wf] using h
    have hcode : ((encodeNum (.coded n)).drop 1).take 16 = beBytes 16 n := by simp [encodeNum]
    have hkind : opByte (encodeNum (.coded n)) 0 = 1 := rfl
    simp only [decodeNum, hcode, hkind, beNat_beBytes hn]
    rfl

end Sys2Proof.Proofs
end

section
/-! SUPPORT. What the decoder makes of the words the encoder writes (30_encoding.md R92 to R98, R106, R110). -/

namespace Sys2Proof.Proofs

open Sys2Proof.Machine Sys2Proof.Laws

/-! ### Operation words with operands of variable length -/

theorem decodeOp_uiTick (ops : List Byte) : decodeOp 0x60 ops =
    if (opBytes ops 1 (opByte ops 0).toNat).all (fun b => b == 0 || b == 1) then
      decodeDone ops (1 + (opByte ops 0).toNat) (.uiTick ((opBytes ops 1 (opByte ops 0).toNat).map (· == 1)))
    else .error .badOperand := rfl

theorem decode_decResp {buf : List Byte} (h : buf.length ≤ 255) (slave : Byte) (count : U16) :
    decode (encode (.decResp buf slave count)) = .ok (.decResp buf slave count) := by
  have hlen : buf.length % 256 = buf.length := by omega
  have hdone := decodeDone_of_length_le (ops := slave :: hiByte count :: loByte count :: BitVec.ofNat 8 buf.length :: buf)
    (used := 4 + buf.length) (by simp; omega)
  simp [encode, decode, decodeOp, hlen, hdone, opBytes_self]

theorem decode_trTransact {request : List Byte} {m : Nat} (hreq : request.length = 8) (h5 : 5 ≤ m) (h255 : m ≤ 255) :
    decode (encode (.trTransact request m)) = .ok (.trTransact request m) := by
  have hm : (m - 5) % 256 = m - 5 := by omega
  have hle : m - 5 ≤ 250 := by omega
  have hback : 5 + (m - 5) = m := by omega
  simp [encode, decode, decodeOp, hm, hle, hback, opBytes_self hreq, decodeDone_of_length_le, hreq]

theorem boolBytes_areBits (raw : List Bool) : (raw.map boolByte).all (fun b => b == 0 || b == 1) = true := by
  rw [List.all_map]
  exact List.all_eq_true.2 fun b _ => boolByte_isBit b

theorem levels_of_boolBytes (raw : List Bool) : (raw.map boolByte).map (· == 1) = raw := by
  rw [List.map_map]
  exact List.map_id'' boolByte_eq_one raw

theorem decode_uiTick {raw : List Bool} (h : raw.length ≤ 255) :
    decode (encode (.uiTick raw)) = .ok (.uiTick raw) := by
  have hlen : (BitVec.ofNat 8 raw.length).toNat = raw.length := by rw [BitVec.toNat_ofNat]; omega
  have hops : opBytes (BitVec.ofNat 8 raw.length :: raw.map boolByte) 1 raw.length = raw.map boolByte :=
    opBytes_self (List.length_map _)
  have hdone := decodeDone_of_length_le (ops := BitVec.ofNat 8 raw.length :: raw.map boolByte)
    (used := 1 + raw.length) (by rw [List.length_cons, List.length_map, Nat.add_comm])
  have hrow : decode (encode (.uiTick raw)) = decodeOp 0x60 (BitVec.ofNat 8 raw.length :: raw.map boolByte) := rfl
  rw [hrow, decodeOp_uiTick, opByte_cons_zero, hlen, hops, if_pos (boolBytes_areBits raw), hdone, levels_of_boolBytes]

theorem decode_spPublish {m : Measurement} (h : m.wf = true) (alert : Bool) :
    decode (encode (.spPublish m alert)) = .ok (.spPublish m alert) := by
  obtain ⟨v, c, p, ts⟩ := m
  simp only [Measurement.wf, Bool.and_eq_true] at h
  obtain ⟨⟨hv, hc⟩, hp⟩ := h
  have hts : beNat (beBytes 8 ts.toNat) = ts.toNat := beNat_beBytes ts.isLt
  simp [encode, decode, decodeOp, decodePublish, opBool_boolByte, decodeDone_of_length_le, opBytes_append_right,
    opBytes_append_left, opBytes_self, decodeNum_encodeNum, hv, hc, hp, hts]

/-! ### Frames -/

/-- The low seven bits of a function byte with bit 7 clear (R93). -/
theorem func_of_normal (f : BitVec 7) : (f.setWidth 8).getLsbD 7 = false ∧ (f.setWidth 8 : Byte).setWidth 7 = f := by
  constructor
  · simp
  · simp

/-- The low seven bits of a function byte with bit 7 set (R94). -/
theorem func_of_exception (f : BitVec 7) :
    ((f.setWidth 8 : Byte) ||| 0x80).getLsbD 7 = true ∧ ((f.setWidth 8 : Byte) ||| 0x80).setWidth 7 = f := by
  revert f
  decide

theorem decodeFrame_reqBytes (slave : Byte) (start count : U16) (lo hi : Byte) :
    decodeFrame (reqBytes slave start count lo hi) = .ok (.req slave start count lo hi) := by
  simp [decodeFrame, reqBytes, reqBody]

theorem decodeFrame_excBytes (slave : Byte) (func : BitVec 7) (code lo hi : Byte) :
    decodeFrame (excBytes slave func code lo hi) = .ok (.exc slave func code lo hi) := by
  obtain ⟨hbit, hlow⟩ := func_of_exception func
  simp only [decodeFrame, excBytes_length]
  simp only [excBytes, excBody, List.cons_append, List.nil_append, opByte_cons_succ, opByte_cons_zero, hbit, hlow]
  rfl

theorem decodeFrame_rspBytes {regs : List U16} (h1 : 1 ≤ regs.length) (h125 : regs.length ≤ 125) (slave : Byte)
    (func : BitVec 7) (lo hi : Byte) :
    decodeFrame (rspBytes slave func regs lo hi) = .ok (.rsp slave func regs lo hi) := by
  obtain ⟨hbit, hlow⟩ := func_of_normal func
  have hshape : rspBytes slave func regs lo hi =
      slave :: func.setWidth 8 :: BitVec.ofNat 8 (2 * regs.length) :: (regBytes regs ++ [lo, hi]) := by
    simp [rspBytes, rspBody]
  have hcount : (BitVec.ofNat 8 (2 * regs.length)).toNat = 5 + 2 * regs.length - 5 := by rw [BitVec.toNat_ofNat]; omega
  have hregs : (regBytes regs ++ [lo, hi]).take (5 + 2 * regs.length - 5) = regBytes regs :=
    List.take_left' (by rw [regBytes_length]; omega)
  have hlo : opByte (regBytes regs ++ [lo, hi]) (2 * regs.length) = lo := by
    rw [opByte_append_right _ _ (by simp), regBytes_length, Nat.sub_self, opByte_cons_zero]
  have hhi : opByte (regBytes regs ++ [lo, hi]) (2 * regs.length + 1) = hi := by
    rw [opByte_append_right _ _ (by simp), regBytes_length, Nat.add_sub_cancel_left]
    rfl
  rw [decodeFrame, rspBytes_length, if_neg (by omega), if_neg (by omega), if_pos (by omega), hshape,
    show 5 + 2 * regs.length - 2 = 2 * regs.length + 1 + 1 + 1 by omega,
    show 5 + 2 * regs.length - 1 = 2 * regs.length + 1 + 1 + 1 + 1 by omega]
  simp only [opByte_cons_zero, opByte_cons_succ, List.drop_succ_cons, List.drop_zero, hbit, hlow, hcount, hregs, hlo, hhi,
    pairRegs_regBytes]
  rfl

/-! ### Characters -/

/-- Setting bit `j` shows at index `j` only. -/
theorem getLsbD_or_bit {w : Nat} (acc : BitVec w) (j : Nat) {i : Nat} (hi : i < w) :
    (acc ||| ((1 <<< j : Nat) : BitVec w)).getLsbD i = (acc.getLsbD i || decide (j = i)) := by
  rw [BitVec.getLsbD_or]
  congr 1
  rw [show ((1 <<< j : Nat) : BitVec w) = BitVec.ofNat w (1 <<< j) from rfl, BitVec.getLsbD_ofNat, Nat.one_shiftLeft,
    Nat.testBit_two_pow, decide_eq_true hi, Bool.true_and]

/-- Bit `i` of an assembled byte is level `i` (R96). -/
theorem byteOfBits_getLsbD (bits : List Bool) {i : Nat} (hi : i < 8) : (byteOfBits bits).getLsbD i = bits.getD i false := by
  have assembled (n : Nat) :
      ((List.range n).foldl (fun acc j => if bits.getD j false then acc ||| ((1 <<< j : Nat) : Byte) else acc) 0).getLsbD i =
        (decide (i < n) && bits.getD i false) := by
    induction n with
    | zero => simp
    | succ n ih =>
      rw [List.range_succ, List.foldl_append, List.foldl_cons, List.foldl_nil]
      have hlt : decide (i < n + 1) = (decide (i < n) || decide (n = i)) := by
        rw [← Bool.decide_or, decide_eq_decide]
        omega
      split
      · rename_i hbit
        rw [getLsbD_or_bit _ _ hi, ih, hlt]
        by_cases hin : n = i
        · rw [← hin, hbit, decide_eq_true rfl, Bool.or_true, Bool.or_true, Bool.and_true]
        · rw [decide_eq_false hin, Bool.or_false, Bool.or_false]
      · rename_i hbit
        rw [ih, hlt]
        by_cases hin : n = i
        · rw [← hin, eq_false_of_ne_true hbit, Bool.and_false, Bool.and_false]
        · rw [decide_eq_false hin, Bool.or_false]
  exact (assembled 8).trans (by rw [decide_eq_true hi, Bool.true_and])

theorem byteOfBits_dataBits (d : Byte) : byteOfBits (dataBits d) = d := by
  apply BitVec.eq_of_getLsbD_eq
  intro i hi
  rw [byteOfBits_getLsbD _ hi]
  simp [dataBits, hi]

/-- The parity level a character of a layout carries (R96, R111). -/
def parityLevel (f : CharFormat) (p : Bool) : Option Bool := if f.hasParity then some p else none

/-- The row of a layout, for data `d` and, where the layout has one, parity bit `p` (R111). -/
def charRow (f : CharFormat) (d : Byte) (p : Bool) : Instr :=
  match f with
  | .n1 => .char8N1 d
  | .p1 => .char8P1 d p
  | .n2 => .char8N2 d
  | .p2 => .char8P2 d p

theorem encode_charRow (f : CharFormat) (d : Byte) (p : Bool) :
    encode (charRow f d p) = .char f (frameLevels d (parityLevel f p) f.stopBits) := by
  cases f <;> rfl

/-- A rendered character decodes to its row: the levels between start bit and parity or stop bits assemble to the data. -/
theorem decodeChar_frameLevels (f : CharFormat) (d : Byte) (p : Bool) :
    decodeChar f (frameLevels d (parityLevel f p) f.stopBits) = .ok (charRow f d p) := by
  have hdata : Except.ok (ε := DecodeError) (charRow f (byteOfBits (dataBits d)) p) = .ok (charRow f d p) := by
    rw [byteOfBits_dataBits]
  cases f <;> exact hdata

/-! ### The round trip -/

/-- Settles O4: row by row; the operand bytes of each row are read back by their accessors. -/
theorem decodeOfEncode : Obligations.DecodeOfEncode := by
  intro i h
  cases i with
  | reset | crcInit | crcGet | trGap | trTxen | trWrite | trFlush | trRxen | trRead | uartRxchar | mstCycle | dsmTick
  | dsmBtnSensor | dsmMeas | crcUpd | crcChk | uartTxchar => rfl
  | spConvert f => cases f; rfl
  | crcBit b | blkTick b => cases b <;> rfl
  | encRdreq slave start count => simp [encode, decode, decodeOp, decodeDone_of_length_le]
  | mstPoll slave start count => simp [encode, decode, decodeOp, decodeDone_of_length_le]
  | dsmBtnMedia index =>
    have hi : index % 65536 = index := Nat.mod_eq_of_lt (of_decide_eq_true h)
    simp [encode, decode, decodeOp, decodeDone_of_length_le, hi]
  | dbSample p r =>
    have hp : p % 65536 = p := Nat.mod_eq_of_lt (of_decide_eq_true h)
    simp [encode, decode, decodeOp, decodeDone_of_length_le, opBool_boolByte, hp]
  | decResp buf slave count => exact decode_decResp (of_decide_eq_true h) slave count
  | trTransact request m =>
    simp only [Instr.wf, Bool.and_eq_true, decide_eq_true_eq] at h
    obtain ⟨⟨hreq, h5⟩, h255⟩ := h
    exact decode_trTransact hreq h5 h255
  | uiTick raw => exact decode_uiTick (of_decide_eq_true h)
  | spPublish m alert => exact decode_spPublish h alert
  | req slave start count lo hi => exact decodeFrame_reqBytes slave start count lo hi
  | exc slave func code lo hi => exact decodeFrame_excBytes slave func code lo hi
  | rsp slave func regs lo hi =>
    simp only [Instr.wf, Bool.and_eq_true, decide_eq_true_eq] at h
    obtain ⟨h1, h125⟩ := h
    exact decodeFrame_rspBytes h1 h125 slave func lo hi
  | char8N1 d => exact decodeChar_frameLevels .n1 d false
  | char8P1 d p => exact decodeChar_frameLevels .p1 d p
  | char8N2 d => exact decodeChar_frameLevels .n2 d false
  | char8P2 d p => exact decodeChar_frameLevels .p2 d p

end Sys2Proof.Proofs
end

section
/-! SUPPORT. What the decoder accepts: the operands are in range (30_encoding.md R105, R106), and a frame or a character is the
one its instruction stands for (R92 to R96). -/

namespace Sys2Proof.Proofs

open Sys2Proof.Laws

/-! ### Frames -/

/-- Bytes taken for registers are the bytes of these registers (R93, R97). -/
theorem regBytes_pairRegs {bs : List Byte} (h : bs.length % 2 = 0) : regBytes (pairRegs bs) = bs := by
  induction bs using pairRegs.induct with
  | case1 hi lo rest ih =>
    have hrest : regBytes (pairRegs rest) = rest := ih (by simp only [List.length_cons] at h; omega)
    calc regBytes (pairRegs (hi :: lo :: rest))
        = hiByte (beU16 hi lo) :: loByte (beU16 hi lo) :: regBytes (pairRegs rest) := rfl
      _ = hi :: lo :: rest := by rw [hiByte_beU16, loByte_beU16, hrest]
  | case2 bs hshort =>
    match bs, hshort, h with
    | [], _, _ => rfl
    | [_], _, h => cases h
    | a :: b :: r, hshort, _ => exact absurd rfl (hshort a b r)

/-- A function byte with bit 7 clear is its low seven bits. -/
theorem normal_of_low {f : Byte} (h : f.getLsbD 7 = false) : (f.setWidth 7).setWidth 8 = f := by
  apply BitVec.eq_of_getLsbD_eq
  intro i hi
  rcases Nat.lt_succ_iff_lt_or_eq.1 hi with h7 | rfl
  · simp [hi, h7]
  · simpa using h.symm

/-- A function byte with bit 7 set is its low seven bits and that bit. -/
theorem exception_of_low {f : Byte} (h : f.getLsbD 7 = true) : (f.setWidth 7).setWidth 8 ||| 0x80 = f := by
  apply BitVec.eq_of_getLsbD_eq
  intro i hi
  rcases Nat.lt_succ_iff_lt_or_eq.1 hi with h7 | rfl
  · rw [BitVec.getLsbD_or, BitVec.getLsbD_setWidth, BitVec.getLsbD_setWidth]
    have hbit : (0x80 : Byte).getLsbD i = false := by interval_cases i <;> rfl
    rw [hbit, decide_eq_true hi, decide_eq_true h7, Bool.true_and, Bool.true_and, Bool.or_false]
  · simp [h]

/-- Eight bytes with function 0x03 are the request they decode to (R92). -/
theorem eq_reqBytes {bs : List Byte} (hlen : bs.length = 8) (hfunc : opByte bs 1 = 0x03) :
    bs = reqBytes (opByte bs 0) (opU16 bs 2) (opU16 bs 4) (opByte bs 6) (opByte bs 7) := by
  match bs, hlen with
  | [slave, func, a1, a0, n1, n0, lo, hi], _ =>
    cases (hfunc : func = 0x03)
    show [slave, 0x03, a1, a0, n1, n0, lo, hi] = [slave, 0x03, hiByte (beU16 a1 a0), loByte (beU16 a1 a0),
      hiByte (beU16 n1 n0), loByte (beU16 n1 n0), lo, hi]
    rw [hiByte_beU16, loByte_beU16, hiByte_beU16, loByte_beU16]

/-- Five bytes with bit 7 of the function byte set are the exception response they decode to (R94). -/
theorem eq_excBytes {bs : List Byte} (hlen : bs.length = 5) (hfunc : (opByte bs 1).getLsbD 7 = true) :
    bs = excBytes (opByte bs 0) ((opByte bs 1).setWidth 7) (opByte bs 2) (opByte bs 3) (opByte bs 4) := by
  match bs, hlen with
  | [slave, func, code, lo, hi], _ =>
    show [slave, func, code, lo, hi] = [slave, (func.setWidth 7).setWidth 8 ||| 0x80, code, lo, hi]
    rw [exception_of_low (f := func) hfunc]

/-- Two bytes at least, seen from the end: a frame without its trailer, and the trailer. -/
theorem exists_trailer {bs : List Byte} (h : 2 ≤ bs.length) : ∃ body lo hi, bs = body ++ [lo, hi] := by
  have hlen : (bs.drop (bs.length - 2)).length = 2 := by rw [List.length_drop]; omega
  obtain ⟨lo, hi, htail⟩ := List.length_eq_two.1 hlen
  exact ⟨bs.take (bs.length - 2), lo, hi, by rw [← htail, List.take_append_drop]⟩

/-- An odd number of bytes from seven on, with bit 7 of the function byte clear and a byte count that fits, are the response
they decode to (R93). -/
theorem eq_rspBytes {bs : List Byte} (h7 : 7 ≤ bs.length) (hodd : bs.length % 2 = 1) (hfunc : (opByte bs 1).getLsbD 7 = false)
    (hcount : (opByte bs 2).toNat = bs.length - 5) :
    bs = rspBytes (opByte bs 0) ((opByte bs 1).setWidth 7) (pairRegs ((bs.drop 3).take (bs.length - 5)))
      (opByte bs (bs.length - 2)) (opByte bs (bs.length - 1)) := by
  match bs, h7 with
  | slave :: func :: count :: rest, h7 =>
    obtain ⟨body, lo, hi, rfl⟩ := exists_trailer (bs := rest) (by simp only [List.length_cons] at h7; omega)
    have hlen : (slave :: func :: count :: (body ++ [lo, hi])).length = body.length + 5 := by simp
    rw [hlen] at hodd hcount
    have hlo : opByte (body ++ [lo, hi]) body.length = lo := by
      rw [opByte_append_right _ _ le_rfl, Nat.sub_self, opByte_cons_zero]
    have hhi : opByte (body ++ [lo, hi]) (body.length + 1) = hi := by
      rw [opByte_append_right _ _ (Nat.le_add_right _ 1), Nat.add_sub_cancel_left]
      rfl
    have hbytes : BitVec.ofNat 8 (2 * (pairRegs body).length) = count := by
      apply BitVec.eq_of_toNat_eq
      have hbody : count.toNat = body.length := hcount
      have hlt := count.isLt
      rw [BitVec.toNat_ofNat, pairRegs_length]
      omega
    rw [hlen, Nat.add_sub_cancel, show body.length + 5 - 2 = body.length + 1 + 1 + 1 by omega,
      show body.length + 5 - 1 = body.length + 1 + 1 + 1 + 1 by omega]
    simp only [opByte_cons_zero, opByte_cons_succ, List.drop_succ_cons, List.drop_zero, List.take_left, hlo, hhi]
    rw [rspBytes, rspBody, hbytes, normal_of_low (f := func) hfunc, regBytes_pairRegs (by omega)]
    simp

/-- A frame that decodes is a request, an exception response or a response of 1..125 registers (R92 to R94, R105). -/
theorem decodeFrame_ok {bs : List Byte} {i : Instr} (h : decodeFrame bs = .ok i) :
    (∃ slave start count lo hi, i = .req slave start count lo hi ∧ bs = reqBytes slave start count lo hi) ∨
    (∃ slave func code lo hi, i = .exc slave func code lo hi ∧ bs = excBytes slave func code lo hi) ∨
    (∃ slave func regs lo hi, i = .rsp slave func regs lo hi ∧ bs = rspBytes slave func regs lo hi ∧
      1 ≤ regs.length ∧ regs.length ≤ 125) := by
  unfold decodeFrame at h
  dsimp only at h
  split at h
  · split at h <;> cases h
    exact .inl ⟨_, _, _, _, _, rfl, eq_reqBytes ‹_› ‹_›⟩
  · split at h
    · split at h <;> cases h
      exact .inr (.inl ⟨_, _, _, _, _, rfl, eq_excBytes ‹_› ‹_›⟩)
    · split at h
      · rename_i hrange
        obtain ⟨h7, h255, hodd⟩ := hrange
        split at h
        · cases h
        · rename_i hfunc
          split at h <;> cases h
          refine .inr (.inr ⟨_, _, _, _, _, rfl, eq_rspBytes h7 hodd (eq_false_of_ne_true hfunc) ‹_›, ?_⟩)
          rw [pairRegs_length, List.length_take, List.length_drop]
          omega
      · cases h

/-! ### Characters -/

theorem dataBits_byteOfBits {bits : List Bool} (h : bits.length = 8) : dataBits (byteOfBits bits) = bits := by
  apply List.ext_getElem
  · rw [dataBits_length, h]
  · intro i h1 h2
    have hi : i < 8 := h1
    have hbit := byteOfBits_getLsbD bits hi
    rw [List.getD_eq_getElem _ _ h2] at hbit
    simpa [dataBits] using hbit

theorem eq_replicate_of_all {ls : List Bool} {n : Nat} (hlen : ls.length = n) (h : ls.all id = true) :
    ls = List.replicate n true :=
  List.eq_replicate_iff.2 ⟨hlen, fun b hb => List.all_eq_true.1 h b hb⟩

/-- What follows the data bits of a character: the parity bit of its layout, if any, and the stop bits. -/
theorem drop_nine_eq {f : CharFormat} {levels : List Bool} (hlen : levels.length = f.bits)
    (hstop : (levels.drop (f.bits - f.stopBits)).all id = true) :
    levels.drop 9 = (parityLevel f (levels.getD 9 false)).toList ++ List.replicate f.stopBits true := by
  have hstops : levels.drop (f.bits - f.stopBits) = List.replicate f.stopBits true :=
    eq_replicate_of_all (by rw [List.length_drop, hlen]; cases f <;> rfl) hstop
  have hparity (h9 : 9 < levels.length) : levels.drop 9 = levels.getD 9 false :: levels.drop 10 := by
    rw [List.getD_eq_getElem _ _ h9, ← List.drop_eq_getElem_cons h9]
  cases f with
  | n1 | n2 => exact hstops
  | p1 | p2 => exact (hparity (by rw [hlen]; decide)).trans (congrArg _ hstops)

/-- A character that decodes is the one its row renders (R96). -/
theorem decodeChar_ok {f : CharFormat} {levels : List Bool} {i : Instr} (h : decodeChar f levels = .ok i) :
    ∃ d p, i = charRow f d p ∧ levels = frameLevels d (parityLevel f p) f.stopBits := by
  unfold decodeChar at h
  dsimp only at h
  split at h
  · cases h
  · rename_i hbits
    have hlen : levels.length = f.bits := not_not.1 hbits
    have h10 : 10 ≤ levels.length := by rw [hlen]; cases f <;> decide
    split at h
    · cases h
    · rename_i hstart
      split at h
      · rename_i hstop
        refine ⟨byteOfBits ((levels.drop 1).take 8), levels.getD 9 false, ?_, ?_⟩
        · cases f <;> cases h <;> rfl
        · have hdata : dataBits (byteOfBits ((levels.drop 1).take 8)) = (levels.drop 1).take 8 :=
            dataBits_byteOfBits (by rw [List.length_take, List.length_drop]; omega)
          have hlow : levels[0] = false := by
            rw [List.getD_eq_getElem _ _ (by omega)] at hstart
            exact eq_false_of_ne_true hstart
          calc levels = levels[0] :: levels.drop 1 := List.drop_eq_getElem_cons (i := 0) (by omega)
            _ = false :: ((levels.drop 1).take 8 ++ levels.drop 9) := by
              rw [hlow, show levels.drop 9 = (levels.drop 1).drop 8 by rw [List.drop_drop], List.take_append_drop]
            _ = _ := by rw [frameLevels, hdata, drop_nine_eq hlen hstop, List.append_assoc]
      · cases h

/-- Settles O6: the inversion of the two decoders, with the encoder's word for the row. -/
theorem wireWordsHaveOneMeaning : Obligations.WireWordsHaveOneMeaning := by
  constructor
  · intro bs i h
    rcases decodeFrame_ok h with ⟨_, _, _, _, _, rfl, rfl⟩ | ⟨_, _, _, _, _, rfl, rfl⟩ | ⟨_, _, _, _, _, rfl, rfl, _⟩
    all_goals rfl
  · intro f levels i h
    obtain ⟨d, p, rfl, rfl⟩ := decodeChar_ok h
    exact encode_charRow f d p

/-! ### Operands in range -/

/-- A decoded number is one that operand bytes carry. -/
theorem decodeNum_wf {bs : List Byte} {n : Num} (h : decodeNum bs = some n) : n.wf = true := by
  unfold decodeNum at h
  dsimp only at h
  have bound (i k : Nat) : beNat ((bs.drop i).take k) < 256 ^ k :=
    (beNat_lt _).trans_le (Nat.pow_le_pow_right (by decide) (List.length_take_le _ _))
  split at h
  · split at h <;> cases h
    rename_i hlowest
    obtain ⟨hnum, hden⟩ := hlowest
    have hlo := BitVec.le_toInt (BitVec.ofNat 64 (beNat ((bs.drop 1).take 8)))
    have hhi := BitVec.toInt_lt (x := BitVec.ofNat 64 (beNat ((bs.drop 1).take 8)))
    have hd := bound 9 8
    simp only [Num.wf, hnum, hden, Bool.and_eq_true, decide_eq_true_eq]
    exact ⟨⟨hlo, hhi⟩, hd⟩
  · split at h <;> cases h
    exact decide_eq_true (bound 1 16)

theorem decodeDone_wf {ops : List Byte} {k : Nat} {i j : Instr} (h : decodeDone ops k i = .ok j) (hi : i.wf = true) :
    j.wf = true := by
  unfold decodeDone at h
  split at h <;> cases h
  exact hi

theorem decodePublish_wf {ops : List Byte} {i : Instr} (h : decodePublish ops = .ok i) : i.wf = true := by
  unfold decodePublish at h
  split at h
  · rename_i hv hc hp
    refine decodeDone_wf h ?_
    simp only [Instr.wf, Measurement.wf, decodeNum_wf hv, decodeNum_wf hc, decodeNum_wf hp, Bool.and_self]
  · cases h

/-- An operation word decodes to an operation with operands in range. -/
theorem decodeOp_wf {id : Byte} {ops : List Byte} {i : Instr} (h : decodeOp id ops = .ok i) : i.wf = true := by
  unfold decodeOp at h
  split at h
  case h_8 => exact decodeDone_wf h (decide_eq_true (by rw [opBytes_length]; omega))
  case h_9 =>
    split at h
    · refine decodeDone_wf h ?_
      rw [Instr.wf, opBytes_length, Bool.and_eq_true, Bool.and_eq_true]
      exact ⟨⟨rfl, decide_eq_true (Nat.le_add_right _ _)⟩, decide_eq_true (by omega)⟩
    · cases h
  case h_21 => exact decodePublish_wf h
  case h_22 =>
    split at h
    · exact decodeDone_wf h (decide_eq_true (opU16 ops 0).isLt)
    · cases h
  case h_23 =>
    dsimp only at h
    split at h
    · exact decodeDone_wf h (decide_eq_true (by rw [List.length_map, opBytes_length]; omega))
    · cases h
  case h_25 => exact decodeDone_wf h (decide_eq_true (opU16 ops 0).isLt)
  case h_29 => cases h
  case h_3 | h_28 =>
    split at h
    · exact decodeDone_wf h rfl
    · cases h
  all_goals exact decodeDone_wf h rfl

/-- Settles O5: an operation by its operands' accessors, a frame by its length, a character always. -/
theorem decodedIsWellFormed : Obligations.DecodedIsWellFormed := by
  intro w i h
  match w with
  | .op [] => cases h
  | .op (id :: ops) => exact decodeOp_wf h
  | .frame bs =>
    rcases decodeFrame_ok h with ⟨_, _, _, _, _, rfl, _⟩ | ⟨_, _, _, _, _, rfl, _⟩ |
      ⟨_, _, regs, _, _, rfl, _, h1, h125⟩
    · rfl
    · rfl
    · simp only [Instr.wf, Bool.and_eq_true, decide_eq_true_eq]
      exact ⟨h1, h125⟩
  | .char f levels =>
    obtain ⟨d, p, rfl, _⟩ := decodeChar_ok h
    cases f <;> rfl

end Sys2Proof.Proofs
end

section
/-! SUPPORT. The step that runs a presented word (30_encoding.md R110, R111; 70_reset_and_hazards.md R400), and words of the
spec written out. -/

namespace Sys2Proof.Proofs

open Sys2Proof.Machine

/-- A presented word that decodes runs on the state with the word taken, unless `rst` cuts it short (log 25). -/
theorem step_of_decoded {s : State} {w : StreamWord} {i : Instr} (hc : cfgWf s.cfg = true) (hr : rstPort s = false)
    (hw : fetchWord s = some w) (hd : decode w = .ok i) :
    step s = cutByRst (takeWord s) (exec i (takeWord s)) := by
  simp [step, hc, hr, hw, hd]

/-- A word none of whose ticks meets `rst` at 1 has its whole effect. -/
theorem cutByRst_of_low {s t : State} (h : ∀ r ∈ sampledRst s t, r = false) : cutByRst s (.next t) = .next t := by
  have hany : (sampledRst s t).any id = false := List.any_eq_false.2 fun r hr => by simp [h r hr]
  rw [cutByRst, hany]
  rfl

/-- With `rst` at 0 for good no word is cut short. -/
theorem cutByRst_of_noRst {s : State} (h : ∀ r ∈ s.env.rstNext, r = false) (o : Host.Outcome State Fault Refusal) :
    cutByRst s o = o := by
  cases o with
  | next t => exact cutByRst_of_low fun r hr => h r (List.mem_of_mem_take hr)
  | fault e => rfl
  | refused e => rfl

/-- A word one of whose ticks meets `rst` at 1 ends in the reset on the first of them. -/
theorem cutByRst_of_high {s t : State} (h : ∃ r ∈ sampledRst s t, r = true) :
    ∃ k, s.env.rstNext[k]? = some true ∧ (∀ j, j < k → s.env.rstNext[j]? = some false) ∧
      cutByRst s (.next t) = .next (State.resetOf s.cfg { s.env with
        line := s.env.line.drop (k + 1), rstNext := s.env.rstNext.drop (k + 1) }) := by
  obtain ⟨r, hr, rfl⟩ := h
  have hlt : s.env.rstNext.findIdx id < s.env.rstNext.length :=
    List.findIdx_lt_length_of_exists ⟨true, List.mem_of_mem_take hr, rfl⟩
  refine ⟨s.env.rstNext.findIdx id, ?_, fun j hj => ?_, ?_⟩
  · rw [List.getElem?_eq_getElem hlt]
    exact congrArg some (List.findIdx_getElem (w := hlt))
  · rw [List.getElem?_eq_getElem (hj.trans hlt)]
    exact congrArg some (List.not_of_lt_findIdx hj)
  · have hany : (sampledRst s t).any id = true := List.any_eq_true.2 ⟨true, hr, rfl⟩
    rw [cutByRst, if_pos hany]

theorem rstPort_of_noRst {s : State} (h : ∀ r ∈ s.env.rstNext, r = false) : rstPort s = false := by
  unfold rstPort
  cases hr : s.env.rstNext with
  | nil => rfl
  | cons r rs => exact h r (by rw [hr]; exact List.mem_cons_self)

/-- A table word has a meaning exactly when its word decodes (log 3). -/
theorem decode_of_decodeTableWord {nbits w : Nat} {i : Instr} (h : decodeTableWord nbits w = some i) :
    decode (wordOf nbits w) = .ok i := by
  unfold decodeTableWord at h
  split at h <;> cases h
  assumption

/-- Settles O2: the step is `cutByRst` of the instruction, and that has the three cases of `rst`. -/
theorem stepRunsTheDecodedWord : Obligations.StepRunsTheDecodedWord := by
  constructor
  · intro s u w ws i hc hr hp hd hu
    have hs := step_of_decoded hc hr (fetchWord_of_pend hp) hd
    have htake : takeWord s = u := by rw [hu, takeWord, hp, List.tail_cons]
    have hrst : u.env.rstNext = s.env.rstNext := by rw [hu]
    have hline : u.env.line = s.env.line := by rw [hu]
    have hcfg : u.cfg = s.cfg := by rw [hu]
    have hsampled (t : State) : sampledRst u t = sampledRst s t := by rw [sampledRst, sampledRst, hrst]
    rw [htake] at hs
    refine ⟨fun h => ?_, fun t ht h => ?_, fun t ht h => ?_⟩
    · rw [hs, cutByRst_of_noRst (hrst ▸ h)]
    · rw [hs, ht, cutByRst_of_low (hsampled t ▸ h)]
    · obtain ⟨k, hk, hj, e⟩ := cutByRst_of_high (hsampled t ▸ h)
      rw [hrst] at hk hj e
      rw [hline, hcfg] at e
      exact ⟨k, hk, hj, by rw [hs, ht, e]⟩
  · intro s nbits w i hc hr hd
    have hs := step_of_decoded (s := s.withFetchWord nbits w) hc (rstPort_of_noRst hr) (fetchWord_of_pend rfl)
      (decode_of_decodeTableWord hd)
    exact hs.trans (cutByRst_of_noRst hr _)

/-- Settles O7: each word is decoded. -/
theorem wordsOfTheSpecDecode : Obligations.WordsOfTheSpecDecode :=
  ⟨rfl, rfl, rfl, rfl, rfl, rfl, rfl, rfl, rfl, rfl, rfl⟩

end Sys2Proof.Proofs
end

section
/-! SUPPORT. Bytes sent one after another: what stands on `uart_txd`, the time it takes and the registers it leaves
(42_transport_uart.md R195, R196, R200). -/

namespace Sys2Proof.Proofs

open Sys2Proof.Machine Sys2Proof.Laws

theorem drain_dirState (s : State) : (drain s).dirState = s.dirState := by unfold drain; split <;> simp
theorem drain_urx (s : State) : (drain s).urx = s.urx := by unfold drain; split <;> simp

/-- Ticks add up. -/
theorem add_ofNat_add (x : BitVec 64) (m n : Nat) :
    x + BitVec.ofNat 64 m + BitVec.ofNat 64 n = x + BitVec.ofNat 64 (m + n) := by
  rw [BitVec.ofNat_add, BitVec.add_assoc]

theorem pendingLevels_of_free {s : State} (h : s.utx.busy = false) : pendingLevels s = [] := by
  rw [pendingLevels, h]
  rfl

/-- A transmitter that finishes puts what is left on the line, a level a tick. -/
theorem drain_sends (s : State) : (drain s).env.txdLog = s.env.txdLog ++ pendingLevels s ∧
    (drain s).now = s.now + BitVec.ofNat 64 (pendingLevels s).length := by
  cases hb : s.utx.busy with
  | true =>
    obtain ⟨_, _, hnow, henv, _⟩ := drain_spec s hb
    rw [henv, hnow, pendingLevels, hb]
    exact ⟨rfl, rfl⟩
  | false =>
    rw [drain_idle hb, pendingLevels_of_free hb]
    simp

/-- `t` is `s` after what was still to be sent and these bytes have been sent, a character each (R195, R200). -/
structure Sent (s t : State) (bytes : List Byte) : Prop where
  cfg : t.cfg = s.cfg
  log : t.env.txdLog = s.env.txdLog ++ pendingLevels s ++ bytes.flatMap fun d => onLine s.cfg (charLevels s.cfg d)
  now : t.now = s.now + BitVec.ofNat 64 ((pendingLevels s).length + bytes.length * charTicks s.cfg)
  txidx : t.tr.txidx = s.tr.txidx + bytes.length
  utx : t.utx = utxOff
  uartTxd : t.uartTxd = true
  dirState : t.dirState = s.dirState
  urx : t.urx = s.urx

theorem sendCounted_sent {s : State} (hc : charBits s.cfg ≤ 12) (d : Byte) : Sent s (sendCounted s d) [d] := by
  have hcfg : (drain s).cfg = s.cfg := (drain_frame s).cfg
  have hagain : sendChar d (drain s) = sendChar d s := by rw [sendChar, sendChar, drain_idle (drain_busy s)]
  obtain ⟨hlog, hnow⟩ := drain_sends s
  obtain ⟨hutx, htxd, hnow', henv⟩ := sendChar_spec (s := drain s) (hcfg ▸ hc) (drain_busy s) d
  rw [hagain] at hutx htxd hnow' henv
  rw [hcfg] at hnow' henv
  refine ⟨(sendCounted_frame s d).cfg, ?_, ?_, congrArg (· + 1) (sendChar_txidx d s), hutx, htxd, ?_, ?_⟩
  · rw [sendCounted, setTr_env, henv, List.flatMap_singleton, ← hlog]
    rfl
  · rw [sendCounted, setTr_now, hnow', hnow, add_ofNat_add, List.length_singleton, Nat.one_mul]
  · rw [sendCounted, setTr_dirState, sendChar, drain_dirState, loadChar_dirState, drain_dirState]
  · rw [sendCounted, setTr_urx, sendChar, drain_urx, loadChar_urx, drain_urx]

theorem sent_append {s t u : State} {as bs : List Byte} (h : Sent s t as) (k : Sent t u bs) : Sent s u (as ++ bs) := by
  have hfree : pendingLevels t = [] := pendingLevels_of_free (by rw [h.utx]; rfl)
  have hlog := k.log
  have hnow := k.now
  rw [hfree, h.cfg] at hlog hnow
  refine ⟨k.cfg.trans h.cfg, ?_, ?_, ?_, k.utx, k.uartTxd, k.dirState.trans h.dirState, k.urx.trans h.urx⟩
  · rw [hlog, h.log, List.flatMap_append, List.append_nil, List.append_assoc _ (as.flatMap _)]
  · rw [hnow, h.now, add_ofNat_add, List.length_append, List.length_nil, Nat.zero_add, Nat.add_mul, Nat.add_assoc]
  · rw [k.txidx, h.txidx, List.length_append, Nat.add_assoc]

/-- Bytes handed to the UART one by one, at least one, go out back to back. -/
theorem foldl_sendCounted_sent {bytes : List Byte} (hne : bytes ≠ []) {s : State} (hc : charBits s.cfg ≤ 12) :
    Sent s (bytes.foldl sendCounted s) bytes := by
  induction bytes generalizing s with
  | nil => exact absurd rfl hne
  | cons d ds ih =>
    have hfirst := sendCounted_sent hc d
    rw [List.foldl_cons]
    rcases ds.eq_nil_or_concat with rfl | hds
    · exact hfirst
    · have hrest := ih (by rintro rfl; simp at hds) (hfirst.cfg ▸ hc)
      rw [← List.singleton_append]
      exact sent_append hfirst hrest

/-- From index 0 on the whole request is sent (R194, R195). -/
theorem writeRequest_assertDir (req : List Byte) (s : State) :
    writeRequest req (assertDir s) = req.foldl sendCounted (assertDir s) := rfl

end Sys2Proof.Proofs
end

section
/-! SUPPORT. Format `REQ`: the request goes out on the line (30_encoding.md R92; 42_transport_uart.md R194 to R196; log 4). -/

namespace Sys2Proof.Proofs

open Sys2Proof.Machine Sys2Proof.Laws

theorem read_of_sendFrame {s t : State} (f : SendFrame s t) (k : Nat) :
    Memory.read t.tx k = Memory.read s.tx k ∧ Memory.read t.rx k = Memory.read s.rx k := by
  rw [f.tx, f.rx]
  exact ⟨rfl, rfl⟩

/-- With nothing to send the flush ends at once (R196). -/
theorem flushTx_of_free {s : State} (h : s.utx.busy = false) : flushTx s = s.enterPhase .flush := drain_idle h

/-- The clause of FrameRowsArrive about format `REQ`. -/
theorem execReq_sends (s : State) (slave : Byte) (a n : U16) (lo hi : Byte) (hc : CfgFacts s.cfg) : ∃ t,
    exec (.req slave a n lo hi) s = .next t ∧
    t.env.txdLog = s.env.txdLog ++ pendingLevels s ++
      (reqBytes slave a n lo hi).flatMap (fun d => onLine s.cfg (charLevels s.cfg d)) ∧
    t.now = s.now + BitVec.ofNat 64 ((pendingLevels s).length + 8 * charTicks s.cfg) ∧
    t.dirState = true ∧ t.uartTxd = true ∧ t.utx = utxOff ∧ t.urx = urxOff ∧ t.tr.phase = .flush ∧ t.tr.txidx = 8 ∧
    t.res = .none ∧ SendFrame s t ∧ ∀ k, Memory.read t.tx k = Memory.read s.tx k ∧ Memory.read t.rx k = Memory.read s.rx k := by
  have hne : reqBytes slave a n lo hi ≠ [] := List.cons_ne_nil _ _
  have hsent := foldl_sendCounted_sent hne (s := assertDir s) (charBits_le_twelve hc)
  have f : SendFrame s ((flushTx (writeRequest (reqBytes slave a n lo hi) (assertDir s))).setRes .none) :=
    sendFrame_trans (assertDir_frame s) (sendFrame_trans (writeRequest_frame _ _) (sendFrame_trans (flushTx_frame _)
      (setRes_frame _ _)))
  refine ⟨_, rfl, ?_⟩
  rw [← writeRequest_assertDir] at hsent
  generalize writeRequest (reqBytes slave a n lo hi) (assertDir s) = w at *
  rw [flushTx_of_free (by rw [hsent.utx]; rfl)] at f ⊢
  exact ⟨hsent.log, hsent.now, hsent.dirState, hsent.uartTxd, hsent.utx, rfl, rfl, hsent.txidx, rfl, f, read_of_sendFrame f⟩

end Sys2Proof.Proofs
end

section
/-! SUPPORT. One tick of the receiver, case by case, and what it foresees of the line (42_transport_uart.md R201; log 13). -/

namespace Sys2Proof.Proofs

open Sys2Proof.Machine Sys2Proof.Laws

/-- The receiver as a tick at 0 finds it: between characters a start bit begins (R201). -/
def begun (u : Urx) : Urx := if u.busy then u else { u with shift := 0, bitcnt := 0, tickcnt := 0, busy := true }

/-- The shift register after a tick: in the middle of a bit its level is sampled (R201). -/
def sampledShift (c : Cfg) (rxd : Bool) (u : Urx) : BitVec 12 :=
  if decide (u.tickcnt = c.bitTicks / 2) && rxd then u.shift ||| ((1 <<< u.bitcnt : Nat) : BitVec 12) else u.shift

theorem begun_busy (u : Urx) : (begun u).busy = true := by
  unfold begun
  split
  · assumption
  · rfl

theorem begun_enable (u : Urx) : (begun u).enable = u.enable := by unfold begun; split <;> rfl

/-- A tick at 0 between characters is the first tick of a start bit. -/
theorem urxTick_begun {c : Cfg} {u : Urx} (he : u.enable = true) (hb : u.busy = false) :
    urxTick c false u = urxTick c false (begun u) := by
  simp [urxTick, begun, he, hb]

/-- The tick of a receiver inside a character: the start bit turns out to be a glitch, the bit goes on, the next bit begins, or
the character ends (R201). -/
theorem urxTick_busy_cases {c : Cfg} {u : Urx} (he : u.enable = true) (hb : u.busy = true) (rxd : Bool) :
    (u.tickcnt = c.bitTicks / 2 ∧ u.bitcnt = 0 ∧ rxd = true ∧
      urxTick c rxd u = ({ u with shift := 0, bitcnt := 0, tickcnt := 0, busy := false }, none)) ∨
    (¬ (u.tickcnt = c.bitTicks / 2 ∧ u.bitcnt = 0 ∧ rxd = true) ∧
      ((u.tickcnt + 1 < c.bitTicks ∧
        urxTick c rxd u = ({ u with shift := sampledShift c rxd u, tickcnt := u.tickcnt + 1 }, none)) ∨
      (c.bitTicks ≤ u.tickcnt + 1 ∧ u.bitcnt + 1 < charBits c ∧
        urxTick c rxd u = ({ u with shift := sampledShift c rxd u, bitcnt := u.bitcnt + 1, tickcnt := 0 }, none)) ∨
      (c.bitTicks ≤ u.tickcnt + 1 ∧ charBits c ≤ u.bitcnt + 1 ∧
        urxTick c rxd u = ({ u with shift := sampledShift c rxd u, bitcnt := 0, tickcnt := 0, busy := false },
          some (sampledItem c (sampledShift c rxd u)))))) := by
  have hq : ¬ (u.enable = false ∨ (u.busy = false ∧ rxd = true)) := by simp [he, hb]
  by_cases hg : u.tickcnt = c.bitTicks / 2 ∧ u.bitcnt = 0 ∧ rxd = true
  · obtain ⟨hmid, hstart, hrxd⟩ := hg
    refine .inl ⟨hmid, hstart, hrxd, ?_⟩
    simp [urxTick, he, hb, hmid, hstart, hrxd]
  · have hno : ¬ (decide (u.tickcnt = c.bitTicks / 2) && decide (u.bitcnt = 0) && rxd) = true := by
      simpa [and_assoc] using hg
    have hsh : urxTick c rxd u =
        if u.tickcnt + 1 < c.bitTicks then ({ u with shift := sampledShift c rxd u, tickcnt := u.tickcnt + 1 }, none)
        else if u.bitcnt + 1 < charBits c then
          ({ u with shift := sampledShift c rxd u, bitcnt := u.bitcnt + 1, tickcnt := 0 }, none)
        else ({ u with shift := sampledShift c rxd u, bitcnt := 0, tickcnt := 0, busy := false },
          some (sampledItem c (sampledShift c rxd u))) := by
      rw [urxTick, if_neg hq]
      simp only [hb, if_true, if_neg hno]
      rfl
    refine .inr ⟨hg, ?_⟩
    by_cases hbit : u.tickcnt + 1 < c.bitTicks
    · exact .inl ⟨hbit, by rw [hsh, if_pos hbit]⟩
    · by_cases hchar : u.bitcnt + 1 < charBits c
      · exact .inr (.inl ⟨Nat.not_lt.1 hbit, hchar, by rw [hsh, if_neg hbit, if_pos hchar]⟩)
      · exact .inr (.inr ⟨Nat.not_lt.1 hbit, Nat.not_lt.1 hchar, by rw [hsh, if_neg hbit, if_neg hchar]⟩)

/-! ### What the receiver foresees -/

/-- The middle sample of a start bit under way falls within the next `n` levels (R201). -/
def SampleWithin (c : Cfg) (u : Urx) (n : Nat) : Prop :=
  u.busy = true → u.enable = true ∧ (u.bitcnt = 0 → u.tickcnt ≤ c.bitTicks / 2 → c.bitTicks / 2 - u.tickcnt < n)

/-- Whether a start bit is a glitch is decided by the levels up to its middle sample. -/
theorem falseStart_append {c : Cfg} {u : Urx} {seg : List Bool} (h : SampleWithin c u seg.length) (a b : List Bool) :
    falseStart c u (seg ++ a) = falseStart c u (seg ++ b) := by
  by_cases hstart : u.busy = true ∧ u.bitcnt = 0 ∧ u.tickcnt ≤ c.bitTicks / 2
  · obtain ⟨hb, hbit, htick⟩ := hstart
    have hlt := (h hb).2 hbit htick
    rw [falseStart, falseStart, List.getD_append _ _ _ _ hlt, List.getD_append _ _ _ _ hlt]
  · have hnot (line : List Bool) : falseStart c u line = false := by
      simp only [falseStart, Bool.and_eq_false_imp, decide_eq_true_eq, Bool.and_eq_true]
      exact fun ⟨⟨hb, hbit⟩, htick⟩ => absurd ⟨hb, hbit, htick⟩ hstart
    rw [hnot, hnot]

theorem sampleWithin_of_idle {c : Cfg} {u : Urx} (h : u.busy = false) (n : Nat) : SampleWithin c u n :=
  fun hb => absurd (h.symm.trans hb) nofun

/-- A tick brings the middle sample one level nearer; a start bit that begins has a bit time of levels to come. -/
theorem sampleWithin_tick {c : Cfg} {u : Urx} {l : Bool} {n : Nat} (h : SampleWithin c u (n + 1))
    (hl : l = false → c.bitTicks ≤ n) : SampleWithin c (urxTick c l u).1 n := by
  have inside {v : Urx} (he : v.enable = true) (hb : v.busy = true) (hv : SampleWithin c v (n + 1)) :
      SampleWithin c (urxTick c l v).1 n := by
    obtain ⟨_, hmid⟩ := hv hb
    rcases urxTick_busy_cases he hb l with ⟨_, _, _, e⟩ | ⟨_, ⟨_, e⟩ | ⟨_, _, e⟩ | ⟨_, _, e⟩⟩ <;> rw [e]
    · exact sampleWithin_of_idle rfl n
    · refine fun _ => ⟨he, fun hbit htick => ?_⟩
      have := hmid hbit (Nat.le_of_succ_le htick)
      dsimp only at htick ⊢
      omega
    · exact fun _ => ⟨he, fun hbit => absurd hbit (Nat.succ_ne_zero _)⟩
    · exact sampleWithin_of_idle rfl n
  cases hb : u.busy with
  | true => exact inside (h hb).1 hb h
  | false =>
    cases he : u.enable with
    | false => rw [urxTick_off he]; exact sampleWithin_of_idle hb n
    | true =>
      cases l with
      | true => rw [urxTick_quiet hb]; exact sampleWithin_of_idle hb n
      | false =>
        have hn := hl rfl
        rw [urxTick_begun he hb]
        refine inside ((begun_enable u).trans he) (begun_busy u) fun _ => ⟨(begun_enable u).trans he, fun _ _ => ?_⟩
        omega

end Sys2Proof.Proofs
end

section
/-! SUPPORT. Levels that stand on `uart_rxd` tick by tick: the time they take, what a receiver that is off keeps, and levels in
two parts (30_encoding.md R93, R94, R96; 42_transport_uart.md R208; log 4). -/

namespace Sys2Proof.Proofs

open Sys2Proof.Machine Sys2Proof.Laws

/-! ### Time -/

theorem receptionTick_now (before : State) (item : Option LinkItem) (s : State) :
    (receptionTick before item s).now = s.now := by
  unfold receptionTick
  split
  · rfl
  · dsimp only
    split <;> rfl

theorem transportTick_now (before : State) (item : Option LinkItem) (s : State) :
    (transportTick before item s).now = s.now := by
  unfold transportTick
  split
  · rfl
  · rfl
  · split <;> rfl
  · exact receptionTick_now _ _ _
  all_goals rfl

theorem tickWith_now (rxd : Bool) (s : State) : (tickWith rxd s).now = s.now + 1 := transportTick_now _ _ _

theorem lineTicks_now (n : Nat) (s : State) : (lineTicks n s).now = s.now + BitVec.ofNat 64 n := by
  induction n generalizing s with
  | zero => simp [lineTicks]
  | succ n ih => rw [lineTicks, ih, tickWith_now, Nat.add_comm n 1, ← add_ofNat_add]; rfl

theorem onLine_length (c : Cfg) (levels : List Bool) : (onLine c levels).length = levels.length * c.bitTicks := by
  simp [onLine, List.length_flatMap]

/-! ### The line -/

/-- The levels to come on `uart_rxd` are these. -/
def withLine (s : State) (line : List Bool) : State := s.setEnv { s.env with line := line }

theorem levelsOnLine_eq (levels : List Bool) (s : State) : levelsOnLine levels s =
    lineTicks (onLine s.cfg levels).length
      (withLine s (onLine s.cfg levels ++ s.env.line.drop (onLine s.cfg levels).length)) := rfl

theorem levelsOnLine_now (levels : List Bool) (s : State) :
    (levelsOnLine levels s).now = s.now + BitVec.ofNat 64 (levels.length * s.cfg.bitTicks) := by
  rw [levelsOnLine_eq, lineTicks_now, onLine_length]
  rfl

theorem receptionTick_env (before : State) (item : Option LinkItem) (s : State) :
    (receptionTick before item s).env = s.env := by
  unfold receptionTick
  split
  · rfl
  · dsimp only
    split <;> rfl

theorem transportTick_env (before : State) (item : Option LinkItem) (s : State) :
    (transportTick before item s).env = s.env := by
  unfold transportTick
  split
  · rfl
  · rfl
  · split <;> rfl
  · exact receptionTick_env _ _ _
  all_goals rfl

theorem tickWith_line (rxd : Bool) (s : State) : (tickWith rxd s).env.line = s.env.line.tail := by
  rw [tickWith_eq, transportTick_env]
  rfl

/-! ### The receiver off -/

/-- Without a character that ended, the Transport's part of a tick leaves the buffer alone, and a receiver that is off stays
off. -/
theorem transportTick_none (before s : State) :
    (transportTick before none s).rx = s.rx ∧ (transportTick before none s).rxlen = s.rxlen ∧
      (s.urx.enable = false → (transportTick before none s).urx.enable = false) := by
  unfold transportTick
  split
  · exact ⟨rfl, rfl, id⟩
  · exact ⟨rfl, rfl, id⟩
  · split
    · exact ⟨rfl, rfl, id⟩
    · exact ⟨rfl, rfl, fun _ => rfl⟩
  · unfold receptionTick
    split <;> exact ⟨rfl, rfl, id⟩
  all_goals exact ⟨rfl, rfl, id⟩

/-- With the receiver off nothing is received (R208). -/
theorem lineTicks_off (n : Nat) {s : State} (h : s.urx.enable = false) :
    (lineTicks n s).rx = s.rx ∧ (lineTicks n s).rxlen = s.rxlen := by
  induction n generalizing s with
  | zero => exact ⟨rfl, rfl⟩
  | succ n ih =>
    obtain ⟨hrx, hlen, henable⟩ := transportTick_none s (countedTick (rxdPort s) s)
    have hcounted : (countedTick (rxdPort s) s).urx.enable = false := by rw [countedTick_urx, urxTick_enable, h]
    have htick : tickWith (rxdPort s) s = transportTick s none (countedTick (rxdPort s) s) := by
      rw [tickWith_eq, urxTick_off h]
    obtain ⟨hrx', hlen'⟩ := ih (s := tickWith (rxdPort s) s) (htick ▸ henable hcounted)
    rw [htick] at hrx' hlen'
    rw [lineTicks, htick, hrx', hlen', hrx, hlen, countedTick_rx, countedTick_rxlen]
    exact ⟨rfl, rfl⟩

theorem levelsOnLine_off (levels : List Bool) {s : State} (h : s.urx.enable = false) :
    (levelsOnLine levels s).rx = s.rx ∧ (levelsOnLine levels s).rxlen = s.rxlen :=
  lineTicks_off _ (s := withLine s _) h

/-! ### Ticks and the result of the operation before -/

theorem transportTick_setRes (before : State) (item : Option LinkItem) (s : State) (r : OpResult) :
    transportTick (before.setRes r) item (s.setRes r) = (transportTick before item s).setRes r := by
  unfold transportTick
  rw [setRes_tr]
  split
  · rfl
  · rfl
  · rw [setRes_utx]
    split <;> rfl
  · unfold receptionTick
    rw [show receptionOver (before.setRes r) = receptionOver before from rfl]
    split
    · rfl
    · dsimp only
      split <;> rfl
  all_goals rfl

theorem tickWith_setRes (rxd : Bool) (s : State) (r : OpResult) : tickWith rxd (s.setRes r) = (tickWith rxd s).setRes r := by
  rw [tickWith_eq, tickWith_eq, ← transportTick_setRes]
  rfl

theorem lineTicks_setRes (n : Nat) (s : State) (r : OpResult) : lineTicks n (s.setRes r) = (lineTicks n s).setRes r := by
  induction n generalizing s with
  | zero => rfl
  | succ n ih => rw [lineTicks, tickWith_setRes, ih]; rfl

theorem levelsOnLine_setRes (levels : List Bool) (s : State) (r : OpResult) :
    levelsOnLine levels (s.setRes r) = (levelsOnLine levels s).setRes r := by
  rw [levelsOnLine_eq, levelsOnLine_eq, ← lineTicks_setRes]
  rfl

/-! ### Levels in two parts -/

theorem lineTicks_add (m n : Nat) (s : State) : lineTicks (m + n) s = lineTicks n (lineTicks m s) := by
  induction m generalizing s with
  | zero => rw [Nat.zero_add, lineTicks]
  | succ m ih => rw [Nat.succ_add, lineTicks, ih, lineTicks]

theorem lineTicks_line (n : Nat) (s : State) : (lineTicks n s).env.line = s.env.line.drop n := by
  induction n generalizing s with
  | zero => rfl
  | succ n ih => rw [lineTicks, ih, tickWith_line, List.drop_tail]

/-- Of the line to come a reception's tick looks at the start bit under way only. -/
theorem transportTick_withLine (before : State) (item : Option LinkItem) (s : State) (a b : List Bool)
    (h : falseStart s.cfg s.urx b = falseStart s.cfg s.urx s.env.line) :
    transportTick (withLine before a) item (withLine s b) = withLine (transportTick before item s) b := by
  unfold transportTick
  rw [show (withLine before a).tr = before.tr from rfl]
  split
  · rfl
  · rfl
  · rw [show (withLine before a).utx = before.utx from rfl]
    split <;> rfl
  · unfold receptionTick
    rw [show receptionOver (withLine before a) = receptionOver before from rfl]
    split
    · rfl
    · have hprogress : charInProgress (withLine s b) = charInProgress s := congrArg (fun f => s.urx.busy && !f) h
      rw [hprogress]
      dsimp only
      split <;> rfl
  all_goals rfl

theorem tickWith_withLine (l : Bool) (s : State) (a : List Bool)
    (h : falseStart s.cfg (urxTick s.cfg l s.urx).1 a.tail = falseStart s.cfg (urxTick s.cfg l s.urx).1 s.env.line.tail) :
    tickWith l (withLine s a) = withLine (tickWith l s) a.tail := by
  rw [tickWith_eq, tickWith_eq, ← transportTick_withLine s _ (countedTick l s) a a.tail h]
  rfl

/-- A 0 among these levels leaves a bit time of levels after it. -/
def ZerosEndEarly (c : Cfg) : List Bool → Prop
  | [] => True
  | l :: ls => (l = false → c.bitTicks ≤ ls.length) ∧ ZerosEndEarly c ls

theorem tickWith_urx (l : Bool) (s : State) : (tickWith l s).urx = (urxTick s.cfg l s.urx).1 ∨ (tickWith l s).urx = urxOff := by
  have hu := countedTick_urx l s
  rw [tickWith_eq]
  unfold transportTick
  split
  · exact .inl hu
  · exact .inl hu
  · split
    · exact .inl hu
    · exact .inr rfl
  · unfold receptionTick
    split
    · exact .inl hu
    · dsimp only
      split <;> exact .inl hu
  all_goals exact .inl hu

/-- The ticks of levels that end high do not depend on what the line carries after them. -/
theorem lineTicks_withLine {seg : List Bool} {s : State} (hz : ZerosEndEarly s.cfg seg)
    (hs : SampleWithin s.cfg s.urx seg.length) (a b : List Bool) :
    lineTicks seg.length (withLine s (seg ++ a)) = withLine (lineTicks seg.length (withLine s (seg ++ b))) a := by
  induction seg generalizing s with
  | nil => rfl
  | cons l ls ih =>
    obtain ⟨hl, hz⟩ := hz
    have hnext := sampleWithin_tick (l := l) hs hl
    generalize ht : tickWith l (withLine s (l :: ls ++ b)) = t
    have htick : tickWith l (withLine s (l :: ls ++ a)) = withLine t (ls ++ a) := by
      rw [← ht]
      exact tickWith_withLine l (withLine s (l :: ls ++ b)) _ (falseStart_append hnext a b)
    have hline : withLine t (ls ++ b) = t := by
      have : t.env.line = ls ++ b := by rw [← ht, tickWith_line]; rfl
      rw [withLine, ← this]
      rfl
    have hcfg : t.cfg = s.cfg := by rw [← ht]; exact (tickWith_frame l _).cfg
    have hurx : SampleWithin t.cfg t.urx ls.length := by
      rw [hcfg]
      rcases tickWith_urx l (withLine s (l :: ls ++ b)) with hu | hu <;> rw [ht] at hu <;> rw [hu]
      · exact hnext
      · exact sampleWithin_of_idle rfl _
    calc lineTicks (ls.length + 1) (withLine s (l :: ls ++ a))
        = lineTicks ls.length (tickWith l (withLine s (l :: ls ++ a))) := rfl
      _ = lineTicks ls.length (withLine t (ls ++ a)) := by rw [htick]
      _ = withLine (lineTicks ls.length (withLine t (ls ++ b))) a := ih (hcfg ▸ hz) hurx
      _ = withLine (lineTicks ls.length (tickWith l (withLine s (l :: ls ++ b)))) a := by rw [hline, ht]

theorem zerosEndEarly_high (c : Cfg) (n : Nat) : ZerosEndEarly c (List.replicate n true) := by
  induction n with
  | zero => trivial
  | succ n ih => exact ⟨nofun, ih⟩

theorem zerosEndEarly_append (c : Cfg) (ls : List Bool) : ZerosEndEarly c (ls ++ List.replicate c.bitTicks true) := by
  induction ls with
  | nil => exact zerosEndEarly_high c _
  | cons l ls ih => exact ⟨fun _ => by simp, ih⟩

/-- Levels that end high are those of one part after those of the other, whatever the receiver is doing when they begin. -/
theorem levelsOnLine_append (first second : List Bool) {s : State} (hc : CfgFacts s.cfg) (h : Inv s) :
    levelsOnLine ((first ++ [true]) ++ second) s = levelsOnLine second (levelsOnLine (first ++ [true]) s) := by
  have hz : ZerosEndEarly s.cfg (onLine s.cfg (first ++ [true])) := by
    have : onLine s.cfg (first ++ [true]) = onLine s.cfg first ++ List.replicate s.cfg.bitTicks true := by simp [onLine]
    rw [this]
    exact zerosEndEarly_append _ _
  have hs : SampleWithin s.cfg s.urx (onLine s.cfg (first ++ [true])).length := by
    have hB := hc.bitTicks
    have hlen : s.cfg.bitTicks ≤ (onLine s.cfg (first ++ [true])).length := by
      rw [onLine_length]
      exact Nat.le_mul_of_pos_left _ (by simp)
    intro hb
    refine ⟨?_, fun _ _ => by omega⟩
    by_contra he
    have hoff := h.urx.1 (eq_false_of_ne_true he)
    rw [hoff] at hb
    cases hb
  have hsplit : onLine s.cfg ((first ++ [true]) ++ second) = onLine s.cfg (first ++ [true]) ++ onLine s.cfg second := by
    simp only [onLine, List.flatMap_append]
  rw [levelsOnLine_eq, hsplit, List.length_append, lineTicks_add, List.append_assoc,
    lineTicks_withLine hz hs _ (s.env.line.drop (onLine s.cfg (first ++ [true])).length), ← levelsOnLine_eq,
    levelsOnLine_eq second]
  have hcfg := (levelsOnLine_frame (first ++ [true]) s).cfg
  have hline : (levelsOnLine (first ++ [true]) s).env.line = s.env.line.drop (onLine s.cfg (first ++ [true])).length := by
    rw [levelsOnLine_eq, lineTicks_line]
    exact List.drop_left
  rw [hcfg, hline, List.drop_drop]

end Sys2Proof.Proofs
end

section
/-! SUPPORT. Formats `RSP` and `EXC`: the frame arrives as its characters, one after another (30_encoding.md R93, R94, R96;
42_transport_uart.md R208; log 4). -/

namespace Sys2Proof.Proofs

open Sys2Proof.Machine Sys2Proof.Laws

/-- A character ends high. -/
theorem charLevels_endsHigh {c : Cfg} (hc : CfgFacts c) (d : Byte) : ∃ first, charLevels c d = first ++ [true] := by
  obtain ⟨n, hn⟩ : ∃ n, c.stopBits = n + 1 := by rcases hc.stopBits with h | h <;> exact ⟨_, h⟩
  refine ⟨false :: (dataBits d ++ (parityBit c.parity d).toList ++ List.replicate n true), ?_⟩
  rw [charLevels, frameLevels, hn, List.replicate_succ', List.cons_append, List.append_assoc _ _ [true]]

/-- The row of a character in the configured layout lets its levels pass on the line (R96). -/
theorem exec_charInstr {s : State} (hc : CfgFacts s.cfg) (d : Byte) :
    exec (charInstr s.cfg d) s = .next ((levelsOnLine (charLevels s.cfg d) s).setRes .none) := by
  unfold charInstr charLevels
  rcases hc.stopBits with h | h <;> rw [h] <;> cases parityBit s.cfg.parity d <;> rfl

/-- The first character of a frame arrives, then the others. -/
theorem frameOnLine_cons (d : Byte) (ds : List Byte) {s : State} (hc : CfgFacts s.cfg) (h : Inv s) :
    frameOnLine (d :: ds) s = frameOnLine ds (levelsOnLine (charLevels s.cfg d) s) := by
  obtain ⟨first, hlevels⟩ := charLevels_endsHigh hc d
  have hcfg : (levelsOnLine (charLevels s.cfg d) s).cfg = s.cfg := (levelsOnLine_frame _ s).cfg
  rw [frameOnLine, frameOnLine, hcfg, List.flatMap_cons, hlevels, levelsOnLine_append first _ hc h]

/-- A frame has arrived when its characters have, one after another. -/
theorem runAll_chars (d : Byte) (ds : List Byte) {s : State} (hc : CfgFacts s.cfg) (h : Inv s) :
    runAll ((d :: ds).map (charInstr s.cfg)) s = .next ((frameOnLine (d :: ds) s).setRes .none) := by
  induction ds generalizing d s with
  | nil => simp [runAll, exec_charInstr hc, frameOnLine]
  | cons e es ih =>
    rw [List.map_cons, runAll, exec_charInstr hc, frameOnLine_cons d _ hc h]
    have hcfg : (levelsOnLine (charLevels s.cfg d) s).cfg = s.cfg := (levelsOnLine_frame _ s).cfg
    have hinv := levelsOnLine_inv (charLevels s.cfg d) hc h
    generalize levelsOnLine (charLevels s.cfg d) s = t at *
    have hrest := ih e (s := t.setRes .none) (hcfg ▸ hc) (inv_setRes hinv .none)
    have hres : frameOnLine (e :: es) (t.setRes .none) = (frameOnLine (e :: es) t).setRes .none := levelsOnLine_setRes _ t _
    rw [setRes_cfg, hcfg, hres] at hrest
    exact hrest

/-- What every row that lets levels pass on the line leaves alone, and the time it takes. -/
theorem levelsOnLine_touches {levels : List Bool} {n : Nat} (hn : levels.length = n) {s t : State}
    (ht : t = (levelsOnLine levels s).setRes .none) :
    PollFrame s t ∧ t.now = s.now + BitVec.ofNat 64 (n * s.cfg.bitTicks) ∧ t.crc = s.crc ∧ t.regframe = s.regframe ∧
      t.regframeValid = s.regframeValid ∧ (∀ a, Memory.read t.tx a = Memory.read s.tx a) ∧
      (s.urx.enable = false → (∀ a, Memory.read t.rx a = Memory.read s.rx a) ∧ t.rxlen = s.rxlen) := by
  subst hn ht
  have k := levelsOnLine_codecKept levels s
  refine ⟨pollFrame_trans (levelsOnLine_frame levels s) (setRes_frame _ _).toPollFrame, levelsOnLine_now levels s, k.crc,
    k.regframe, k.regframeValid, fun a => congrArg (Memory.read · a) k.tx, fun hoff => ?_⟩
  obtain ⟨hrx, hlen⟩ := levelsOnLine_off levels hoff
  exact ⟨fun a => congrArg (Memory.read · a) hrx, hlen⟩

/-- A row of a frame lets the frame's characters pass on the line. -/
theorem exec_frameRow {s : State} {i : Instr} {bytes : List Byte}
    (h : (∃ slave func regs lo hi, i = .rsp slave func regs lo hi ∧ bytes = rspBytes slave func regs lo hi) ∨
      (∃ slave func code lo hi, i = .exc slave func code lo hi ∧ bytes = excBytes slave func code lo hi)) :
    exec i s = .next ((frameOnLine bytes s).setRes .none) ∧ ∃ d ds, bytes = d :: ds := by
  rcases h with ⟨_, _, _, _, _, rfl, rfl⟩ | ⟨_, _, _, _, _, rfl, rfl⟩ <;> exact ⟨rfl, _, _, rfl⟩

theorem flatMap_charLevels_length (c : Cfg) (bytes : List Byte) :
    (bytes.flatMap (charLevels c)).length * c.bitTicks = bytes.length * charTicks c := by
  simp [List.length_flatMap, charLevels_length, charTicks, Nat.mul_assoc]

/-- Settles O24: a request is sent as a transaction sends it, a response is its characters on the line. -/
theorem frameRowsArrive : Obligations.FrameRowsArrive := by
  constructor
  · intro s slave a n lo hi hwf
    exact execReq_sends s slave a n lo hi ((cfgWf_iff s.cfg).1 hwf)
  · intro s i bytes hwf hi
    have hc := (cfgWf_iff s.cfg).1 hwf
    obtain ⟨hexec, d, ds, hbytes⟩ := exec_frameRow (s := s) hi
    obtain ⟨hframe, hnow, hcrc, hregs, hvalid, htx, hoff⟩ :=
      levelsOnLine_touches (levels := bytes.flatMap (charLevels s.cfg)) (s := s) rfl rfl
    rw [flatMap_charLevels_length] at hnow
    exact ⟨_, hexec, hframe, rfl, hnow, hcrc, hregs, hvalid, htx, fun h => hbytes ▸ runAll_chars d ds hc h, hoff⟩

end Sys2Proof.Proofs
end

section
/-! SUPPORT. A character on the line as the receiver samples it: bit by bit, and what it makes of the samples (30_encoding.md R96;
42_transport_uart.md R201). -/

namespace Sys2Proof.Proofs

open Sys2Proof.Machine Sys2Proof.Laws

theorem nextChar_of_none {c : Cfg} {u v : Urx} {l : Bool} (h : urxTick c l u = (v, none)) (ls : List Bool) :
    nextChar c u (l :: ls) = (nextChar c v ls).map fun r => (r.1 + 1, r.2) := by
  rw [nextChar, h]

theorem nextChar_of_some {c : Cfg} {u v : Urx} {l : Bool} {item : LinkItem} (h : urxTick c l u = (v, some item))
    (ls : List Bool) : nextChar c u (l :: ls) = some (1, item) := by
  rw [nextChar, h]

/-! ### One bit -/

/-- The shift register after the rest of a bit time at level `l`: the level is sampled unless the middle has passed (R201). -/
def bitShift (c : Cfg) (l : Bool) (u : Urx) : BitVec 12 :=
  if decide (u.tickcnt ≤ c.bitTicks / 2) && l then u.shift ||| ((1 <<< u.bitcnt : Nat) : BitVec 12) else u.shift

/-- The receiver at the beginning of the next bit, the one under way being `l` to its end. -/
def nextBit (c : Cfg) (l : Bool) (u : Urx) : Urx :=
  { u with shift := bitShift c l u, bitcnt := u.bitcnt + 1, tickcnt := 0 }

/-- Sampling in this tick or later in the bit comes to the same. -/
theorem bitShift_tick (c : Cfg) (l : Bool) (u : Urx) :
    bitShift c l { u with shift := sampledShift c l u, tickcnt := u.tickcnt + 1 } = bitShift c l u := by
  cases l with
  | false => simp [bitShift, sampledShift]
  | true =>
    rcases Nat.lt_trichotomy u.tickcnt (c.bitTicks / 2) with h | h | h
    · simp [bitShift, sampledShift, h.ne, Nat.succ_le_of_lt h, h.le]
    · simp [bitShift, sampledShift, h]
    · simp [bitShift, sampledShift, h.ne', Nat.not_le.2 h, Nat.not_le.2 (h.trans (Nat.lt_succ_self _))]

/-- The last tick of a bit samples what is left to sample. -/
theorem sampledShift_last {c : Cfg} {u : Urx} (hticks : 1 ≤ c.bitTicks) (h : u.tickcnt < c.bitTicks)
    (hlast : c.bitTicks ≤ u.tickcnt + 1) (l : Bool) : sampledShift c l u = bitShift c l u := by
  have : (u.tickcnt = c.bitTicks / 2) ↔ (u.tickcnt ≤ c.bitTicks / 2) := by omega
  simp only [sampledShift, bitShift, this]

/-- The rest of a bit time at one level brings the next bit, or ends the character. -/
theorem nextChar_bit {c : Cfg} (hticks : 1 ≤ c.bitTicks) {l : Bool} (rest : List Bool) (n : Nat) {u : Urx}
    (he : u.enable = true) (hb : u.busy = true) (hn : u.tickcnt + n = c.bitTicks) (hpos : 0 < n) (hstart : u.bitcnt = 0 → l = false) :
    nextChar c u (List.replicate n l ++ rest) =
      if u.bitcnt + 1 < charBits c then (nextChar c (nextBit c l u) rest).map fun r => (r.1 + n, r.2)
      else some (n, sampledItem c (bitShift c l u)) := by
  induction n generalizing u with
  | zero => exact absurd hpos (Nat.lt_irrefl 0)
  | succ n ih =>
    have htick : u.tickcnt < c.bitTicks := by omega
    rw [List.replicate_succ, List.cons_append]
    rcases urxTick_busy_cases (c := c) he hb l with
      ⟨_, hbit, hl, _⟩ | ⟨_, ⟨hlt, e⟩ | ⟨hle, hmore, e⟩ | ⟨hle, hend, e⟩⟩
    · exact absurd ((hstart hbit).symm.trans hl) nofun
    · have hrest := ih (u := { u with shift := sampledShift c l u, tickcnt := u.tickcnt + 1 }) he hb
        (by dsimp only; omega) (by omega) hstart
      rw [nextBit, bitShift_tick] at hrest
      rw [nextChar_of_none e, hrest, apply_ite (Option.map _), Option.map_map]
      rfl
    · have hn0 : n = 0 := by omega
      subst hn0
      rw [nextChar_of_none e, if_pos hmore, sampledShift_last hticks htick hle]
      rfl
    · have hn0 : n = 0 := by omega
      subst hn0
      rw [nextChar_of_some e, if_neg (Nat.not_lt.2 hend), sampledShift_last hticks htick hle]

/-! ### A whole character -/

/-- The samples of these levels, the first at index `j`. -/
def shiftedIn (j : Nat) (sh : BitVec 12) : List Bool → BitVec 12
  | [] => sh
  | l :: ls => shiftedIn (j + 1) (if l then sh ||| ((1 <<< j : Nat) : BitVec 12) else sh) ls

theorem shiftedIn_getLsbD (ls : List Bool) (j : Nat) (sh : BitVec 12) {i : Nat} (hi : i < 12) :
    (shiftedIn j sh ls).getLsbD i = (sh.getLsbD i || (decide (j ≤ i) && ls.getD (i - j) false)) := by
  induction ls generalizing j sh with
  | nil => simp [shiftedIn]
  | cons l ls ih =>
    have hhead : (if l then sh ||| ((1 <<< j : Nat) : BitVec 12) else sh).getLsbD i =
        (sh.getLsbD i || (decide (j = i) && l)) := by
      cases l with
      | true => rw [if_pos rfl, getLsbD_or_bit _ _ hi, Bool.and_true]
      | false => simp
    rw [shiftedIn, ih, hhead, Bool.or_assoc]
    congr 1
    rcases Nat.lt_trichotomy i j with h | h | h
    · simp [h.ne', Nat.not_le.2 h, Nat.not_le.2 (h.trans (Nat.lt_succ_self j))]
    · simp [h]
    · rw [show i - j = i - (j + 1) + 1 by omega, List.getD_cons_succ]
      simp [h.ne, Nat.succ_le_of_lt h, h.le]

theorem shiftedIn_eq_packLevels {ls : List Bool} (h : ls.length ≤ 12) : shiftedIn 0 0 ls = packLevels ls := by
  apply BitVec.eq_of_getLsbD_eq
  intro i hi
  rw [shiftedIn_getLsbD ls 0 0 hi, packLevels_getLsbD h]
  simp

/-- The bits that are left of a character, whole, end it; the start bit among them is low. -/
theorem nextChar_levels {c : Cfg} (hticks : 1 ≤ c.bitTicks) (rest : List Bool) {ls : List Bool} {u : Urx}
    (he : u.enable = true) (hb : u.busy = true) (ht : u.tickcnt = 0) (hne : ls ≠ []) (hlen : u.bitcnt + ls.length = charBits c)
    (hstart : u.bitcnt = 0 → ls.head? = some false) :
    nextChar c u (onLine c ls ++ rest) = some (ls.length * c.bitTicks, sampledItem c (shiftedIn u.bitcnt u.shift ls)) := by
  induction ls generalizing u with
  | nil => exact absurd rfl hne
  | cons l ls ih =>
    have hlow : u.bitcnt = 0 → l = false := fun h => Option.some.inj (hstart h)
    have hshift : bitShift c l u = if l then u.shift ||| ((1 <<< u.bitcnt : Nat) : BitVec 12) else u.shift := by
      simp [bitShift, ht]
    have hsplit : onLine c (l :: ls) ++ rest = List.replicate c.bitTicks l ++ (onLine c ls ++ rest) := by simp [onLine]
    rw [List.length_cons] at hlen
    rw [hsplit, nextChar_bit hticks _ _ he hb (by rw [ht, Nat.zero_add]) hticks hlow, List.length_cons, shiftedIn, ← hshift]
    cases ls with
    | nil =>
      rw [if_neg (by simp at hlen; omega), shiftedIn]
      simp
    | cons k ks =>
      rw [if_pos (by simp at hlen; omega), ih (u := nextBit c l u) he hb rfl (List.cons_ne_nil _ _)
        (by rw [← hlen, nextBit]; dsimp only; omega) (fun h => absurd h (Nat.succ_ne_zero _))]
      rw [Option.map_some, Nat.succ_mul]
      rfl

/-- A receiver between characters makes of a character's levels what their samples say (R201). -/
theorem nextChar_begun {c : Cfg} (hc : CfgFacts c) (rest : List Bool) {ls : List Bool} {u : Urx} (he : u.enable = true)
    (hb : u.busy = false) (hlen : ls.length = charBits c) (hstart : ls.head? = some false) :
    nextChar c (begun u) (onLine c ls ++ rest) = some (charTicks c, sampledItem c (packLevels ls)) := by
  have hu : begun u = { u with shift := 0, bitcnt := 0, tickcnt := 0, busy := true } := by simp [begun, hb]
  have hne : ls ≠ [] := by rintro rfl; cases hstart
  rw [← shiftedIn_eq_packLevels (hlen ▸ charBits_le_twelve hc), charTicks, ← hlen, hu]
  exact nextChar_levels hc.bitTicks rest he rfl rfl hne ((Nat.zero_add _).trans hlen) fun _ => hstart

/-! ### What the samples say -/

theorem packedData (d : Byte) (p : Option Bool) {n : Nat} (hlen : (frameLevels d p n).length ≤ 12) :
    (packLevels (frameLevels d p n)).extractLsb' 1 8 = d := by
  apply BitVec.eq_of_getLsbD_eq
  intro i hi
  rw [BitVec.getLsbD_extractLsb', packLevels_getLsbD hlen, decide_eq_true hi, Bool.true_and, Nat.add_comm, frameLevels,
    List.getD_cons_succ, List.append_assoc, List.getD_append _ _ _ _ (by simpa using hi)]
  simp [dataBits, hi]

/-- The first stop bit follows the parity bit, if there is one (R96). -/
theorem stopIndex_eq {c : Cfg} {d : Byte} {p : Option Bool} (hp : p.isSome = (parityBit c.parity d).isSome) :
    stopIndex c = 9 + p.toList.length := by
  unfold stopIndex
  cases hpar : c.parity <;> cases p <;> rw [hpar] at hp
  case none.none | even.some | odd.some => rfl
  all_goals cases hp

/-- A character of the configured layout is its byte, if its parity bit is the one R96 gives it, and otherwise an error (R201). -/
theorem sampledItem_frameLevels {c : Cfg} (hc : CfgFacts c) (d : Byte) {p : Option Bool}
    (hp : p.isSome = (parityBit c.parity d).isSome) :
    sampledItem c (packLevels (frameLevels d p c.stopBits)) = if parityBit c.parity d = p then .byte d else .error := by
  obtain ⟨n, hn⟩ : ∃ n, c.stopBits = n + 1 := by rcases hc.stopBits with h | h <;> exact ⟨_, h⟩
  have hlen : (frameLevels d p c.stopBits).length ≤ 12 := by
    have hone : p.toList.length ≤ 1 := Option.length_toList_le
    rw [frameLevels_length]
    rcases hc.stopBits with h | h <;> omega
  have hdata := packedData d p hlen
  have hstop : (packLevels (frameLevels d p c.stopBits)).getLsbD (stopIndex c) = true := by
    rw [packLevels_getLsbD hlen, stopIndex_eq hp, hn]
    cases p <;> rfl
  have hparity (q : Bool) (h : p = some q) : (packLevels (frameLevels d p c.stopBits)).getLsbD 9 = q := by
    rw [packLevels_getLsbD hlen, h]
    rfl
  rw [sampledItem, hdata, hstop, if_neg (by decide)]
  cases hd : parityBit c.parity d with
  | none =>
    cases p with
    | none => rfl
    | some q => rw [hd] at hp; cases hp
  | some r =>
    cases p with
    | none => rw [hd] at hp; cases hp
    | some q =>
      dsimp only
      rw [hparity q rfl]
      simp only [Option.some.injEq, eq_comm]

end Sys2Proof.Proofs
end

section
/-! SUPPORT. A reception during one character, tick by tick: nothing but time goes on until it ends, then it is stored or counted
as an error (42_transport_uart.md R199, R203). -/

namespace Sys2Proof.Proofs

open Sys2Proof.Machine Sys2Proof.Laws

/-! ### A character in progress -/

/-- The receiver is inside a character that is no glitch, seen with the line to come (log 13). -/
structure InChar (c : Cfg) (u : Urx) (line : List Bool) : Prop where
  enable : u.enable = true
  busy : u.busy = true
  genuine : falseStart c u line = false

/-- A tick inside a genuine character leaves the receiver inside it or, with the item that ended, between characters. -/
theorem inChar_tick {c : Cfg} {u : Urx} {l : Bool} {ls : List Bool} (h : InChar c u (l :: ls)) :
    (∃ v, urxTick c l u = (v, none) ∧ InChar c v ls) ∨
      (∃ v item, urxTick c l u = (v, some item) ∧ v.enable = true ∧ v.busy = false) := by
  have hgenuine := h.genuine
  rcases urxTick_busy_cases (c := c) h.enable h.busy l with ⟨hmid, hbit, hl, _⟩ | ⟨_, ⟨_, e⟩ | ⟨_, _, e⟩ | ⟨_, _, e⟩⟩
  · simp [falseStart, h.busy, hmid, hbit, hl] at hgenuine
  · refine .inl ⟨_, e, h.enable, h.busy, ?_⟩
    simp only [falseStart, h.busy, Bool.true_and, Bool.and_eq_false_imp, Bool.and_eq_true, decide_eq_true_eq] at hgenuine ⊢
    rintro ⟨hbit, htick⟩
    have hlow := hgenuine ⟨hbit, Nat.le_of_succ_le htick⟩
    rwa [show c.bitTicks / 2 - u.tickcnt = c.bitTicks / 2 - (u.tickcnt + 1) + 1 by omega, List.getD_cons_succ] at hlow
  · exact .inl ⟨_, e, h.enable, h.busy, by simp [falseStart]⟩
  · exact .inr ⟨_, _, e, h.enable, rfl⟩

/-- A reception goes on while there is room and time and the silence is not complete (R199). -/
theorem receptionOver_of {s : State} (hroom : s.rxlen < s.tr.maxLen) (htime : s.tr.timeoutCnt < s.cfg.respTimeout)
    (hsilence : seenChar s = true → s.tr.silenceCnt < t35Ticks s.cfg) : receptionOver s = false := by
  have hsil : endsBySilence s = false := by
    rw [endsBySilence, Bool.and_eq_false_imp]
    exact fun hseen => decide_eq_false (Nat.not_le.2 (hsilence hseen))
  simp [receptionOver, endsByLength, endsByTimeout, hsil, hroom, htime]

/-- The state after a tick of a reception with no character ended, as far as the reception goes. -/
structure CharGoesOn (s t : State) (v : Urx) : Prop where
  cfg : t.cfg = s.cfg
  urx : t.urx = v
  line : t.env.line = s.env.line.tail
  rx : t.rx = s.rx
  rxlen : t.rxlen = s.rxlen
  phase : t.tr.phase = s.tr.phase
  maxLen : t.tr.maxLen = s.tr.maxLen
  silenceCnt : t.tr.silenceCnt = s.tr.silenceCnt
  timeoutCnt : t.tr.timeoutCnt = s.tr.timeoutCnt + 1
  ioErr : t.tr.ioErr = s.tr.ioErr

/-- What a reception has made of the character that ended in the last of `n` ticks (R199, R203). -/
structure CharEnded (s t : State) (n : Nat) (item : LinkItem) : Prop where
  enable : t.urx.enable = true
  busy : t.urx.busy = false
  silenceCnt : t.tr.silenceCnt = 0
  timeoutCnt : t.tr.timeoutCnt = s.tr.timeoutCnt + n
  byte : ∀ d, item = .byte d → t.rx = Memory.write s.rx s.rxlen d ∧ t.rxlen = s.rxlen + 1 ∧ t.tr.ioErr = s.tr.ioErr
  error : item = .error → t.rx = s.rx ∧ t.rxlen = s.rxlen ∧ t.tr.ioErr = true

theorem charEnded_later {s t u : State} {v : Urx} {n : Nat} {item : LinkItem} (h : CharGoesOn s t v) (k : CharEnded t u n item) :
    CharEnded s u (n + 1) item := by
  have hbyte := k.byte
  have herror := k.error
  rw [h.rx, h.rxlen, h.ioErr] at hbyte
  rw [h.rx, h.rxlen] at herror
  exact ⟨k.enable, k.busy, k.silenceCnt, by rw [k.timeoutCnt, h.timeoutCnt]; omega, hbyte, herror⟩

section
variable {s : State} (hphase : s.tr.phase = .rx) (hover : receptionOver s = false)
include hphase hover

/-- While a character is in progress the silence does not count (R199). -/
theorem tickWith_goesOn {l : Bool} {v : Urx} (htick : urxTick s.cfg l s.urx = (v, none))
    (hin : InChar s.cfg v s.env.line.tail) : CharGoesOn s (tickWith l s) v := by
  have hprogress : charInProgress (countedTick l s) = true := by
    have hurx : (countedTick l s).urx = v := by rw [countedTick_urx, htick]
    have hline : (countedTick l s).env.line = s.env.line.tail := rfl
    rw [charInProgress, hurx, countedTick_cfg, hline, hin.busy, hin.genuine]
    rfl
  obtain ⟨i, _, htr⟩ := countedTick_tr l s
  have hrec : tickWith l s = (countedTick l s).setTr
      { (countedTick l s).tr with timeoutCnt := (countedTick l s).tr.timeoutCnt + 1 } := by
    rw [tickWith_eq, htick]
    simp only [transportTick, hphase, receptionTick, hover, hprogress, Bool.not_true, Bool.and_false, Bool.false_eq_true,
      if_false]
  rw [hrec]
  refine ⟨countedTick_cfg l s, (countedTick_urx l s).trans (by rw [htick]), rfl, countedTick_rx l s, countedTick_rxlen l s,
    ?_, ?_, ?_, ?_, ?_⟩ <;> rw [setTr_tr, htr]

/-- The tick in which a character ends (R199, R203). -/
theorem tickWith_ended {l : Bool} {v : Urx} {item : LinkItem} (htick : urxTick s.cfg l s.urx = (v, some item))
    (he : v.enable = true) (hb : v.busy = false) : CharEnded s (tickWith l s) 1 item := by
  have hurx : (countedTick l s).urx = v := by rw [countedTick_urx, htick]
  have hlen := countedTick_rxlen l s
  have hrx := countedTick_rx l s
  obtain ⟨i, _, htr⟩ := countedTick_tr l s
  have hrec : tickWith l s = receptionTick s (some item) (countedTick l s) := by
    rw [tickWith_eq, htick, transportTick, hphase]
  cases item with
  | byte d =>
    rw [hrec, receptionTick_byte hover]
    refine ⟨(congrArg Urx.enable hurx).trans he, (congrArg Urx.busy hurx).trans hb, rfl, ?_, ?_, nofun⟩
    · rw [setTr_tr, htr]
    · rintro _ ⟨⟩
      refine ⟨?_, congrArg (· + 1) hlen, ?_⟩
      · rw [setTr_rx, setRxlen_rx, setRx_rx, hrx, hlen]
      · rw [setTr_tr, htr]
  | error =>
    have herror : receptionTick s (some .error) (countedTick l s) = (countedTick l s).setTr
        { (countedTick l s).tr with timeoutCnt := (countedTick l s).tr.timeoutCnt + 1, silenceCnt := 0, ioErr := true } := by
      rw [receptionTick, hover]
      rfl
    rw [hrec, herror]
    exact ⟨(congrArg Urx.enable hurx).trans he, (congrArg Urx.busy hurx).trans hb, rfl, by rw [setTr_tr, htr], nofun,
      fun _ => ⟨hrx, hlen, rfl⟩⟩

end

/-- A character in progress ends in the reception, if there is room and time for it (R199). -/
theorem lineTicks_nextChar {n : Nat} {item : LinkItem} {s : State} (hphase : s.tr.phase = .rx)
    (hin : InChar s.cfg s.urx s.env.line) (hnext : nextChar s.cfg s.urx s.env.line = some (n, item))
    (hroom : s.rxlen < s.tr.maxLen) (htime : s.tr.timeoutCnt + n ≤ s.cfg.respTimeout)
    (hsilence : seenChar s = true → s.tr.silenceCnt < t35Ticks s.cfg) : CharEnded s (lineTicks n s) n item := by
  generalize hline : s.env.line = line at hin hnext
  induction line generalizing n s with
  | nil => cases hnext
  | cons l ls ih =>
    have hport : rxdPort s = l := by rw [rxdPort, hline, List.headD_cons]
    rcases inChar_tick hin with ⟨v, htick, hv⟩ | ⟨v, item', htick, he, hb⟩
    · rw [nextChar_of_none htick] at hnext
      obtain ⟨⟨m, item'⟩, hm, heq⟩ := Option.map_eq_some_iff.1 hnext
      cases heq
      have hover := receptionOver_of hroom (by omega) hsilence
      have hon := tickWith_goesOn hphase hover htick (by rw [hline]; exact hv)
      rw [lineTicks, hport]
      refine charEnded_later hon (ih ?_ ?_ ?_ ?_ ?_ ?_ ?_)
      · rw [hon.phase, hphase]
      · rw [hon.rxlen, hon.maxLen]; exact hroom
      · rw [hon.timeoutCnt, hon.cfg]; omega
      · rw [hon.silenceCnt, hon.cfg, seenChar, hon.rxlen, hon.ioErr]; exact hsilence
      · rw [hon.line, hline, List.tail_cons]
      · rw [hon.cfg, hon.urx]; exact hv
      · rw [hon.cfg, hon.urx]; exact hm
    · rw [nextChar_of_some htick] at hnext
      cases hnext
      have hover := receptionOver_of hroom (by omega) hsilence
      rw [lineTicks, hport]
      exact tickWith_ended hphase hover htick he hb

end Sys2Proof.Proofs
end

section
/-! SUPPORT. The character rows (30_encoding.md R96; 42_transport_uart.md R199, R201, R203, R208; log 4, log 32). -/

namespace Sys2Proof.Proofs

open Sys2Proof.Machine Sys2Proof.Laws

theorem lineIdle_low (s : State) : lineIdle s false = false := by simp [lineIdle]

/-- The first tick of a start bit is the same whether the receiver is taken before or after it has begun. -/
theorem tickWith_begun {s : State} (he : s.urx.enable = true) (hb : s.urx.busy = false) :
    tickWith false s = tickWith false (s.setUrx (begun s.urx)) := by
  have hu := urxTick_begun (c := s.cfg) he hb
  have huart : uartTick false s = uartTick false (s.setUrx (begun s.urx)) := by
    rw [uartTick, uartTick, lineIdle_low, lineIdle_low, setUrx_cfg, setUrx_urx, hu]
    rfl
  rw [tickWith, tickWith, ← huart, setUrx_cfg, setUrx_urx, hu]
  rfl

theorem lineTicks_begun {s : State} (he : s.urx.enable = true) (hb : s.urx.busy = false) {n : Nat} (hn : 0 < n)
    (hline : rxdPort s = false) : lineTicks n s = lineTicks n (s.setUrx (begun s.urx)) := by
  obtain ⟨m, rfl⟩ := Nat.exists_eq_succ_of_ne_zero hn.ne'
  have hline' : rxdPort (s.setUrx (begun s.urx)) = false := hline
  rw [lineTicks, lineTicks, hline, hline', tickWith_begun he hb]

/-- A start bit that stays low to its middle is genuine. -/
theorem inChar_begun {c : Cfg} (hc : CfgFacts c) {u : Urx} (he : u.enable = true) (hb : u.busy = false)
    (levels rest : List Bool) : InChar c (begun u) (onLine c (false :: levels) ++ rest) := by
  have hu : begun u = { u with shift := 0, bitcnt := 0, tickcnt := 0, busy := true } := by simp [begun, hb]
  have hticks := hc.bitTicks
  have hmid : c.bitTicks / 2 < (List.replicate c.bitTicks false).length := by rw [List.length_replicate]; omega
  have hlow : (onLine c (false :: levels) ++ rest).getD (c.bitTicks / 2) true = false := by
    rw [onLine, List.flatMap_cons, List.append_assoc, List.getD_append _ _ _ _ hmid, List.getD_eq_getElem _ _ hmid,
      List.getElem_replicate]
  refine ⟨(begun_enable u).trans he, begun_busy u, ?_⟩
  rw [hu, falseStart]
  simp only [Nat.sub_zero, hlow, Bool.and_false]

/-- A start bit is low from its first tick on. -/
theorem rxdPort_startBit {s : State} (hc : CfgFacts s.cfg) {levels rest : List Bool}
    (hline : s.env.line = onLine s.cfg (false :: levels) ++ rest) : rxdPort s = false := by
  obtain ⟨n, hn⟩ := Nat.exists_eq_succ_of_ne_zero (Nat.one_le_iff_ne_zero.1 hc.bitTicks)
  rw [rxdPort, hline, onLine, List.flatMap_cons, hn, List.replicate_succ]
  rfl

theorem frameLevels_length_eq {c : Cfg} {d : Byte} {p : Option Bool} (hp : p.isSome = (parityBit c.parity d).isSome) :
    (frameLevels d p c.stopBits).length = charBits c := by
  rw [frameLevels_length, charBits]
  cases hpar : c.parity <;> cases p <;> rw [hpar] at hp
  case none.none | even.some | odd.some => rfl
  all_goals cases hp

section
variable {s : State} (hc : CfgFacts s.cfg) (hphase : s.tr.phase = .rx) (he : s.urx.enable = true) (hb : s.urx.busy = false)
  (hroom : s.rxlen < s.tr.maxLen) (htime : s.tr.timeoutCnt + charTicks s.cfg ≤ s.cfg.respTimeout)
  (hsilence : seenChar s = true → s.tr.silenceCnt < t35Ticks s.cfg) (d : Byte) {p : Option Bool}
  (hp : p.isSome = (parityBit s.cfg.parity d).isSome)
include hc hphase he hb hroom htime hsilence hp

/-- A character that is next on the line ends in the reception. -/
theorem lineTicks_char {rest : List Bool} (hline : s.env.line = onLine s.cfg (frameLevels d p s.cfg.stopBits) ++ rest) :
    CharEnded s (lineTicks (charTicks s.cfg) s) (charTicks s.cfg)
      (if parityBit s.cfg.parity d = p then .byte d else .error) := by
  have hin : InChar s.cfg (begun s.urx) s.env.line := hline ▸ inChar_begun hc he hb _ rest
  have hnext : nextChar s.cfg (begun s.urx) s.env.line =
      some (charTicks s.cfg, if parityBit s.cfg.parity d = p then .byte d else .error) := by
    rw [hline, nextChar_begun hc rest he hb (frameLevels_length_eq hp) rfl, sampledItem_frameLevels hc d hp]
  rw [lineTicks_begun he hb (charTicks_pos hc) (rxdPort_startBit hc hline)]
  have hend := lineTicks_nextChar (s := s.setUrx (begun s.urx)) hphase hin hnext hroom htime hsilence
  exact ⟨hend.enable, hend.busy, hend.silenceCnt, hend.timeoutCnt, hend.byte, hend.error⟩

/-- The levels of a character put on the line between characters of a reception (log 4). -/
theorem levelsOnLine_char : CharEnded s (levelsOnLine (frameLevels d p s.cfg.stopBits) s) (charTicks s.cfg)
    (if parityBit s.cfg.parity d = p then .byte d else .error) := by
  have hticks : (onLine s.cfg (frameLevels d p s.cfg.stopBits)).length = charTicks s.cfg := by
    rw [onLine_length, frameLevels_length_eq hp, charTicks]
  rw [levelsOnLine_eq, hticks]
  have hend := lineTicks_char (s := withLine s (onLine s.cfg (frameLevels d p s.cfg.stopBits) ++
    s.env.line.drop (charTicks s.cfg))) hc hphase he hb hroom htime hsilence d hp rfl
  exact ⟨hend.enable, hend.busy, hend.silenceCnt, hend.timeoutCnt, hend.byte, hend.error⟩

end

/-- Settles O29: what every row of levels leaves alone; and in a reception the receiver samples the character, which is stored or
counted as an error. -/
theorem characterRowsReachTheReceiver : Obligations.CharacterRowsReachTheReceiver := by
  constructor
  · intro s d p
    have h8N1 : (frameLevels d none 1).length = 10 := frameLevels_length d none 1
    have h8P1 : (frameLevels d (some p) 1).length = 11 := frameLevels_length d (some p) 1
    have h8N2 : (frameLevels d none 2).length = 11 := frameLevels_length d none 2
    have h8P2 : (frameLevels d (some p) 2).length = 12 := frameLevels_length d (some p) 2
    refine ⟨_, _, _, _, rfl, rfl, rfl, rfl, ?_⟩
    rw [List.forall_mem_cons, List.forall_mem_cons, List.forall_mem_cons, List.forall_mem_singleton]
    exact ⟨levelsOnLine_touches h8N1 rfl, levelsOnLine_touches h8P1 rfl, levelsOnLine_touches h8N2 rfl,
      levelsOnLine_touches h8P2 rfl⟩
  · intro s d p i hwf hphase he hb hroom htime hsilence hi
    have hc := (cfgWf_iff s.cfg).1 hwf
    have hexec : exec i s = .next ((levelsOnLine
        (frameLevels d (if s.cfg.parity = .none then none else some p) s.cfg.stopBits) s).setRes .none) := by
      rcases hc.stopBits with hstop | hstop <;> cases hpar : s.cfg.parity <;> simp only [hstop, hpar] at hi ⊢ <;>
        rw [hi] <;> rfl
    have hp : (if s.cfg.parity = .none then none else some p).isSome = (parityBit s.cfg.parity d).isSome := by
      cases s.cfg.parity <;> rfl
    have hend := levelsOnLine_char hc hphase he hb hroom htime hsilence d hp
    refine ⟨_, hexec, hend.enable, hend.busy, hend.silenceCnt, hend.timeoutCnt, ?_, ?_⟩
    · intro hgood
      have hitem : parityBit s.cfg.parity d = if s.cfg.parity = .none then none else some p := by
        rcases hgood with hnone | hright
        · rw [if_pos hnone, hnone]
          rfl
        · rw [if_neg (by rintro hnone; rw [hnone] at hright; cases hright), hright]
      obtain ⟨hrx, hlen, herr⟩ := hend.byte d (if_pos hitem)
      refine ⟨?_, fun a ha => ?_, hlen, herr⟩
      · rw [setRes_rx, hrx, read_write_same]
      · rw [setRes_rx, hrx, read_write_other _ _ ha]
    · intro hpar hbad
      obtain ⟨hrx, hlen, herr⟩ := hend.error (if_neg (by rwa [if_neg hpar]))
      exact ⟨fun a => congrArg (Memory.read · a) hrx, hlen, herr⟩

end Sys2Proof.Proofs
end

section
/-! SUPPORT. The feedback shift register of the CRC unit (40_crc16.md R133, R134, R143): a step is linear over XOR and one to
one, and a byte is the eight-step loop on the register with the byte XORed into it. -/

namespace Sys2Proof.Proofs

open Sys2Proof.Machine Sys2Proof.Laws

/-! ### One step -/

/-- The carry out of bit 0, XOR the message bit, enters at the places of the polynomial (R133). -/
theorem getLsbD_crcBitStep (c : U16) (b : Bool) (i : Nat) :
    (crcBitStep c b).getLsbD i = xor (c.getLsbD (i + 1)) (xor (c.getLsbD 0) b && (0xA001 : U16).getLsbD i) := by
  rw [crcBitStep, BitVec.getLsbD_xor, BitVec.getLsbD_ushiftRight, Nat.add_comm 1 i]
  cases xor (c.getLsbD 0) b <;> simp

/-- A step is linear in the register and the bit. -/
theorem crcBitStep_xor (c c' : U16) (b b' : Bool) :
    crcBitStep (c ^^^ c') (xor b b') = crcBitStep c b ^^^ crcBitStep c' b' := by
  refine BitVec.eq_of_getLsbD_eq fun i _ => ?_
  simp only [getLsbD_crcBitStep, BitVec.getLsbD_xor]
  cases (0xA001 : U16).getLsbD i
  · simp
  · have hcomm : Std.Commutative xor := ⟨Bool.xor_comm⟩
    simp only [Bool.and_true]
    ac_rfl

/-- A step whose message bit is the carry feeds nothing back. -/
theorem crcBitStep_carry (c : U16) : crcBitStep c (c.getLsbD 0) = c >>> 1 := by
  simp [crcBitStep]

/-- Only the zero register steps to zero: bit 15 afterwards is the carry, the rest is the register shifted (R143). -/
theorem eq_zero_of_crcBitStep {c : U16} (h : crcBitStep c false = 0#16) : c = 0#16 := by
  have hbit (i : Nat) : xor (c.getLsbD (i + 1)) (c.getLsbD 0 && (0xA001 : U16).getLsbD i) = false := by
    have hi := getLsbD_crcBitStep c false i
    rwa [h, Bool.xor_false, BitVec.getLsbD_zero, eq_comm] at hi
  have hcarry : c.getLsbD 0 = false := by
    simpa [show (0xA001 : U16).getLsbD 15 = true by decide] using hbit 15
  have hshift (i : Nat) : c.getLsbD (i + 1) = false := by
    simpa only [hcarry, Bool.false_and, Bool.xor_false] using hbit i
  refine BitVec.eq_of_getLsbD_eq fun i _ => ?_
  rw [BitVec.getLsbD_zero]
  cases i with
  | zero => exact hcarry
  | succ i => exact hshift i

/-! ### The loop of the byte form -/

/-- The loop of R134 is the step with message bit 0, repeated. -/
theorem crcLoop_eq_iterate (k : Nat) (c : U16) : crcLoop k c = (crcBitStep · false)^[k] c := by
  induction k generalizing c with
  | zero => rfl
  | succ k ih =>
    rw [crcLoop, ih, Function.iterate_succ_apply, crcBitStep, Bool.xor_false]
    split <;> simp

theorem crcLoop_succ (k : Nat) (c : U16) : crcLoop (k + 1) c = crcLoop k (crcBitStep c false) := by
  rw [crcLoop_eq_iterate, crcLoop_eq_iterate, Function.iterate_succ_apply]

theorem crcLoop_succ_last (k : Nat) (c : U16) : crcLoop (k + 1) c = crcBitStep (crcLoop k c) false := by
  rw [crcLoop_eq_iterate, crcLoop_eq_iterate, Function.iterate_succ_apply']

theorem crcLoop_add (j k : Nat) (c : U16) : crcLoop (j + k) c = crcLoop j (crcLoop k c) := by
  simp only [crcLoop_eq_iterate, Function.iterate_add_apply]

theorem crcLoop_xor (k : Nat) (c c' : U16) : crcLoop k (c ^^^ c') = crcLoop k c ^^^ crcLoop k c' := by
  induction k with
  | zero => rfl
  | succ k ih =>
    rw [crcLoop_succ_last, ih, crcLoop_succ_last, crcLoop_succ_last, ← crcBitStep_xor, Bool.xor_false]

theorem crcLoop_eq_zero {k : Nat} {c : U16} : crcLoop k c = 0#16 ↔ c = 0#16 := by
  induction k generalizing c with
  | zero => rfl
  | succ k ih =>
    rw [crcLoop_succ, ih]
    exact ⟨eq_zero_of_crcBitStep, by rintro rfl; decide⟩

theorem crcLoop_injective (k : Nat) : Function.Injective (crcLoop k) := by
  intro c c' h
  have hdiff : crcLoop k (c ^^^ c') = 0#16 := by rw [crcLoop_xor, h, BitVec.xor_self]
  exact BitVec.xor_eq_zero_iff.1 (crcLoop_eq_zero.1 hdiff)

/-- A register whose low bits are clear is only shifted. -/
theorem crcLoop_of_low_clear {k : Nat} {c : U16} (h : ∀ i < k, c.getLsbD i = false) : crcLoop k c = c >>> k := by
  induction k generalizing c with
  | zero => simp [crcLoop]
  | succ k ih =>
    have hstep : crcBitStep c false = c >>> 1 := by
      have hcarry := crcBitStep_carry c
      rwa [h 0 (Nat.succ_pos k)] at hcarry
    have hlow : ∀ i < k, (c >>> 1).getLsbD i = false := fun i hi => by
      rw [BitVec.getLsbD_ushiftRight]
      exact h (1 + i) (by omega)
    rw [crcLoop_succ, hstep, ih hlow, ← BitVec.shiftRight_add, Nat.add_comm]

/-! ### A byte -/

/-- The loop on the register with the byte XORed into it runs ahead of the bit steps: after `k` of them it differs by the bits
of the byte that are still to come. -/
theorem foldl_crcBitStep_eq (c : U16) (d : Byte) (k : Nat) :
    ((List.range k).map d.getLsbD).foldl crcBitStep c = crcLoop k (c ^^^ d.setWidth 16) ^^^ (d.setWidth 16 >>> k) := by
  induction k with
  | zero => simp [crcLoop]
  | succ k ih =>
    have hbit : (d.setWidth 16 >>> k).getLsbD 0 = d.getLsbD k := by
      rw [BitVec.getLsbD_ushiftRight, Nat.add_zero, BitVec.getLsbD_setWidth]
      rcases lt_or_ge k 16 with hk | hk
      · simp [hk]
      · simp [BitVec.getLsbD_of_ge d k (by omega)]
    have hnext : crcBitStep (d.setWidth 16 >>> k) (d.getLsbD k) = d.setWidth 16 >>> (k + 1) := by
      rw [← hbit, crcBitStep_carry, BitVec.shiftRight_add]
    rw [List.range_succ, List.map_append, List.foldl_append, ih, List.map_singleton, List.foldl_cons, List.foldl_nil,
      crcLoop_succ_last, ← hnext, ← crcBitStep_xor, Bool.false_xor]

theorem byte_ushiftRight_eight (d : Byte) : d.setWidth 16 >>> 8 = 0#16 := by
  refine BitVec.eq_of_getLsbD_eq fun i _ => ?_
  simp

/-- The bit form and the byte form of R134 agree. -/
theorem crcUpd_eq_crcLoop (c : U16) (d : Byte) : crcUpd c d = crcLoop 8 (c ^^^ d.setWidth 16) := by
  rw [crcUpd, dataBits, foldl_crcBitStep_eq, byte_ushiftRight_eight, BitVec.xor_zero]

theorem getLsbD_leU16 (lo hi : Byte) (i : Nat) :
    (leU16 lo hi).getLsbD i = if i < 8 then lo.getLsbD i else hi.getLsbD (i - 8) :=
  BitVec.getLsbD_append

/-- The loop moves the high byte down; the low byte leaves the register and is fed back. -/
theorem crcLoop_leU16 (lo hi : Byte) : crcLoop 8 (leU16 lo hi) = crcLoop 8 (lo.setWidth 16) ^^^ hi.setWidth 16 := by
  have hword : leU16 lo hi = lo.setWidth 16 ^^^ leU16 0 hi := by
    refine BitVec.eq_of_getLsbD_eq fun i hi16 => ?_
    rw [BitVec.getLsbD_xor, getLsbD_leU16, getLsbD_leU16, BitVec.getLsbD_setWidth]
    split
    · simp [hi16]
    · simp [BitVec.getLsbD_of_ge lo i (by omega)]
  have hlow : ∀ i < 8, (leU16 0 hi).getLsbD i = false := fun i hi8 => by
    rw [getLsbD_leU16, if_pos hi8]
    exact BitVec.getLsbD_zero
  have hhigh : leU16 0 hi >>> 8 = hi.setWidth 16 := by
    refine BitVec.eq_of_getLsbD_eq fun i hi16 => ?_
    rw [BitVec.getLsbD_ushiftRight, getLsbD_leU16, if_neg (by omega), Nat.add_sub_cancel_left]
    simp [hi16]
  rw [hword, crcLoop_xor, crcLoop_of_low_clear hlow, hhigh]

/-- With the byte fixed, the register before is determined by the register after (R143). -/
theorem crcUpd_injective (d : Byte) : Function.Injective fun c => crcUpd c d := by
  intro c c' h
  simp only [crcUpd_eq_crcLoop] at h
  exact (BitVec.xor_left_inj _).1 (crcLoop_injective 8 h)

/-- With the register fixed, different bytes give different registers. -/
theorem crcUpd_byte_injective (c : U16) : Function.Injective (crcUpd c) := by
  intro d d' h
  simp only [crcUpd_eq_crcLoop] at h
  have hwide : d.setWidth 16 = d'.setWidth 16 := (BitVec.xor_right_inj _).1 (crcLoop_injective 8 h)
  simpa using congrArg (BitVec.setWidth 8) hwide

/-- Settles O18. -/
theorem crcUpdIsABijection : Obligations.CrcUpdIsABijection :=
  fun d => Finite.injective_iff_bijective.1 (crcUpd_injective d)

end Sys2Proof.Proofs
end

section
/-! SUPPORT. The table form and the parallel form of the CRC update (40_crc16.md R138, R139). -/

namespace Sys2Proof.Proofs

open Sys2Proof.Machine Sys2Proof.Laws

/-! ### The table -/

theorem crcTable_eq : crcTable = (List.range 256).map fun i => crcLoop 8 (BitVec.ofNat 16 i) := by decide +kernel

theorem getElem?_crcTable {i : Nat} (h : i < 256) : crcTable[i]? = some (crcLoop 8 (BitVec.ofNat 16 i)) := by
  rw [crcTable_eq, List.getElem?_map, List.getElem?_range h, Option.map_some]

/-- The high byte passes through the loop shifted, the low byte is replaced by its entry (R138). -/
theorem crcLoop_eq_table (c : U16) : crcLoop 8 c = (c >>> 8) ^^^ crcTable.getD (c.toNat % 256) 0 := by
  have hindex : BitVec.ofNat 16 (c.toNat % 256) = (loByte c).setWidth 16 :=
    BitVec.eq_of_toNat_eq (by simp [loByte])
  have hentry : crcTable.getD (c.toNat % 256) 0 = crcLoop 8 ((loByte c).setWidth 16) := by
    rw [List.getD_eq_getElem?_getD, getElem?_crcTable (Nat.mod_lt _ (by decide)), Option.getD_some, hindex]
  have hhigh : (hiByte c).setWidth 16 = c >>> 8 := BitVec.eq_of_toNat_eq (by
    have := c.isLt
    simp only [hiByte, BitVec.toNat_setWidth, BitVec.extractLsb'_toNat, BitVec.toNat_ushiftRight, Nat.shiftRight_eq_div_pow]
    omega)
  have hword : leU16 (loByte c) (hiByte c) = c := beU16_hi_lo c
  rw [hentry, ← hhigh, BitVec.xor_comm, ← crcLoop_leU16, hword]

/-- Settles O14: the entries are computed; the update is the loop, and the loop a look-up. -/
theorem crcTableForm : Obligations.CrcTableForm := by
  refine ⟨fun _ hi => getElem?_crcTable hi, fun c d => ?_⟩
  have hshift : (c ^^^ d.setWidth 16) >>> 8 = c >>> 8 := by
    rw [BitVec.ushiftRight_xor_distrib, byte_ushiftRight_eight, BitVec.xor_zero]
  rw [crcUpd_eq_crcLoop, crcLoop_eq_table, hshift]

/-! ### The parallel form -/

/-- What the carry of the first step adds to the register after the rest of the loop. -/
theorem getLsbD_crcLoop_succ (k : Nat) (c : U16) (i : Nat) :
    (crcLoop (k + 1) c).getLsbD i =
      xor (c.getLsbD 0 && (crcLoop k 0xA001).getLsbD i) ((crcLoop k (c >>> 1)).getLsbD i) := by
  rw [crcLoop]
  cases c.getLsbD 0
  · simp
  · simp [crcLoop_xor, Bool.xor_comm]

/-- Bit `i` after `k` steps: bit `k + i`, and each of the bits below `k` that has run through the polynomial to place `i`. -/
theorem getLsbD_crcLoop (k : Nat) (c : U16) (i : Nat) :
    (crcLoop k c).getLsbD i = (List.range k).foldr
      (fun j acc => xor (c.getLsbD j && (crcLoop (k - (j + 1)) 0xA001).getLsbD i) acc) (c.getLsbD (k + i)) := by
  induction k generalizing c with
  | zero => simp [crcLoop]
  | succ k ih =>
    rw [getLsbD_crcLoop_succ, ih (c >>> 1), List.range_succ_eq_map, List.foldr_cons, List.foldr_map]
    simp only [BitVec.getLsbD_ushiftRight, Nat.add_sub_cancel, Nat.add_sub_add_right, Nat.zero_add, Nat.add_comm 1,
      Nat.succ_eq_add_one, Nat.add_right_comm k i 1]

/-- The eight steps of a byte: bit `j` of the register comes back through the word that the polynomial has become after the
steps that follow, which is entry `2 ^ j` of the table. -/
theorem getLsbD_crcLoop_eight (x : U16) (i : Nat) : (crcLoop 8 x).getLsbD i =
    xor (x.getLsbD 0 && (0xC0C1 : U16).getLsbD i) (xor (x.getLsbD 1 && (0xC181 : U16).getLsbD i)
      (xor (x.getLsbD 2 && (0xC301 : U16).getLsbD i) (xor (x.getLsbD 3 && (0xC601 : U16).getLsbD i)
        (xor (x.getLsbD 4 && (0xCC01 : U16).getLsbD i) (xor (x.getLsbD 5 && (0xD801 : U16).getLsbD i)
          (xor (x.getLsbD 6 && (0xF001 : U16).getLsbD i) (xor (x.getLsbD 7 && (0xA001 : U16).getLsbD i)
            (x.getLsbD (8 + i))))))))) :=
  getLsbD_crcLoop 8 x i

/-- Settles O15: for each bit, the words tell which bits of register and byte come back there, and the sum is sorted. -/
theorem crcParallelForm : Obligations.CrcParallelForm := by
  intro c d i hi
  have hcomm : Std.Commutative xor := ⟨Bool.xor_comm⟩
  have hpast : ∀ j, 16 ≤ j → c.getLsbD j = false := fun j hj => BitVec.getLsbD_of_ge c j hj
  have hbyte : ∀ j, 8 ≤ j → d.getLsbD j = false := fun j hj => BitVec.getLsbD_of_ge d j hj
  simp only [crcUpd_eq_crcLoop, getLsbD_crcLoop_eight, BitVec.getLsbD_xor, BitVec.getLsbD_setWidth]
  interval_cases i
  all_goals
    simp only [crcUpdParallel, List.cons_append, List.nil_append, List.foldl_cons, List.foldl_nil,
      List.getElem?_cons_succ, List.getElem?_cons_zero, Option.some_inj, BitVec.reduceGetLsb, Nat.reduceAdd, Nat.reduceLT,
      Nat.reduceLeDiff, hpast, hbyte, decide_true, Bool.true_and, Bool.and_true, Bool.and_false, Bool.false_xor, Bool.xor_false]
  all_goals ac_rfl

end Sys2Proof.Proofs
end

section
/-! SUPPORT. The CRC of a frame: its residue, and one corrupted byte (40_crc16.md R137, R141, R142). -/

namespace Sys2Proof.Proofs

open Sys2Proof.Machine Sys2Proof.Laws

/-! ### The residue -/

/-- A trailer acts on the register as one word, low byte first. -/
theorem crcUpd_trailer (c : U16) (lo hi : Byte) : crcUpd (crcUpd c lo) hi = crcLoop 16 (leU16 lo hi ^^^ c) :=
  calc crcUpd (crcUpd c lo) hi
    _ = crcLoop 8 (crcLoop 8 c ^^^ (crcLoop 8 (lo.setWidth 16) ^^^ hi.setWidth 16)) := by
      rw [crcUpd_eq_crcLoop, crcUpd_eq_crcLoop, crcLoop_xor 8 c, BitVec.xor_assoc]
    _ = crcLoop 8 (crcLoop 8 (leU16 lo hi ^^^ c)) := by rw [← crcLoop_leU16, ← crcLoop_xor, BitVec.xor_comm]
    _ = crcLoop 16 (leU16 lo hi ^^^ c) := (crcLoop_add 8 8 _).symm

/-- The register is zero after a trailer exactly when `CRC.CHK` accepts it (R141). -/
theorem crcUpd_trailer_eq_zero (c : U16) (lo hi : Byte) :
    crcUpd (crcUpd c lo) hi = 0#16 ↔ crcMatches c lo hi = true := by
  rw [crcUpd_trailer, crcLoop_eq_zero, BitVec.xor_eq_zero_iff, crcMatches_iff]

theorem crc16_append_trailer (m : List Byte) (lo hi : Byte) :
    crc16 (m ++ [lo, hi]) = 0#16 ↔ crcMatches (crc16 m) lo hi = true := by
  rw [crc16, List.foldl_append]
  exact crcUpd_trailer_eq_zero (crc16 m) lo hi

theorem crc16_withCrc (m : List Byte) : crc16 (withCrc m) = 0#16 :=
  (crc16_append_trailer m _ _).2 ((crcMatches_iff _ _ _).2 (beU16_hi_lo _))

/-- Settles O16. -/
theorem crcResidueIsZero : Obligations.CrcResidueIsZero :=
  ⟨crc16_withCrc, crc16_append_trailer⟩

/-! ### One corrupted byte -/

theorem foldl_crcUpd_injective (m : List Byte) : Function.Injective fun c => m.foldl crcUpd c := by
  induction m with
  | nil => exact Function.injective_id
  | cons d m ih => exact ih.comp (crcUpd_injective d)

/-- Replacing one byte of a sequence by a different one changes its CRC. -/
theorem crc16_set_ne {m : List Byte} {k : Nat} {d : Byte} (hk : k < m.length) (hd : m[k]? ≠ some d) :
    crc16 (m.set k d) ≠ crc16 m := by
  intro h
  rw [List.set_eq_take_append_cons_drop, if_pos hk] at h
  conv at h => rhs; rw [← List.take_append_drop k m, List.drop_eq_getElem_cons hk]
  simp only [crc16, List.foldl_append, List.foldl_cons] at h
  have hbyte : d = m[k] := crcUpd_byte_injective _ (foldl_crcUpd_injective _ h)
  exact hd (by rw [List.getElem?_eq_getElem hk, hbyte])

/-- A sequence with two bytes more than `n` is its first `n` bytes and a trailer. -/
theorem eq_take_append_trailer {frame : List Byte} {n : Nat} (h : frame.length = n + 2) :
    frame = frame.take n ++ [frame.getD n 0, frame.getD (n + 1) 0] := by
  have htail : frame.drop n = [frame.getD n 0, frame.getD (n + 1) 0] := by
    rw [List.drop_eq_getElem_cons (by omega), List.drop_eq_getElem_cons (by omega), List.drop_of_length_le (by omega),
      List.getD_eq_getElem _ _ (by omega), List.getD_eq_getElem _ _ (by omega)]
  rw [← htail, List.take_append_drop]

/-- Settles O17: the frame's CRC is zero, so that of the corrupted frame is not, and that is what CRC.CHK compares. -/
theorem crcDetectsOneCorruptedByte : Obligations.CrcDetectsOneCorruptedByte := by
  rintro m k d hk hd frame rfl
  have hlen : (withCrc m).length = m.length + 2 := by rw [withCrc, List.length_append]; rfl
  have hne : crc16 ((withCrc m).set k d) ≠ 0#16 := crc16_withCrc m ▸ crc16_set_ne (hlen ▸ hk) hd
  have hframe := eq_take_append_trailer (frame := (withCrc m).set k d) (n := m.length) (by rw [List.length_set, hlen])
  rw [hframe] at hne
  exact Bool.eq_false_iff.2 (mt (crc16_append_trailer _ _ _).2 hne)

end Sys2Proof.Proofs
end

section
/-! SUPPORT. The operations of the CRC unit on the state, and sequences of them (40_crc16.md R132 to R137; 30_encoding.md
R107). -/

namespace Sys2Proof.Proofs

open Sys2Proof.Machine Sys2Proof.Laws

/-! ### One operation -/

theorem exec_crcInit (s : State) : exec .crcInit s = .next ((s.setCrc 0xFFFF).setRes .none) := rfl

theorem exec_crcBit (b : Bool) (s : State) :
    exec (.crcBit b) s = .next ((s.setCrc (crcBitStep s.crc b)).setRes .none) := rfl

theorem exec_crcUpd (d : Byte) (s : State) :
    exec (.crcUpd d) s = .next ((s.setCrc (crcUpd s.crc d)).setRes .none) := rfl

theorem exec_crcGet (s : State) : exec .crcGet s = .next (s.setRes (.trailer (loByte s.crc) (hiByte s.crc))) := rfl

theorem exec_crcChk (lo hi : Byte) (s : State) :
    exec (.crcChk lo hi) s = .next (s.setRes (.check (crcMatches s.crc lo hi))) := rfl

theorem crcMatches_eq_decide (c : U16) (lo hi : Byte) :
    crcMatches c lo hi = decide (lo = loByte c ∧ hi = hiByte c) := by
  rw [crcMatches, Bool.decide_and, beq_eq_decide, beq_eq_decide]

/-- Settles O12: the four meanings, with `CRC.CHK` as a decision. -/
theorem crcRegisterOperations : Obligations.CrcRegisterOperations :=
  fun s => ⟨exec_crcInit s, fun b => exec_crcBit b s, exec_crcGet s, fun lo hi => by
    rw [exec_crcChk, crcMatches_eq_decide]
    rfl⟩

/-! ### Sequences -/

/-- A run of operations that each update the register by `f` folds `f` over their operands. -/
theorem runAll_map_append {α : Type} {op : α → Instr} {f : U16 → α → U16}
    (hop : ∀ a s, exec (op a) s = .next ((s.setCrc (f s.crc a)).setRes .none)) (as : List α) (rest : List Instr) (c : U16)
    (s : State) :
    runAll (as.map op ++ rest) ((s.setCrc c).setRes .none) = runAll rest ((s.setCrc (as.foldl f c)).setRes .none) := by
  induction as generalizing c with
  | nil => rfl
  | cons a as ih =>
    rw [List.map_cons, List.cons_append, runAll, hop]
    exact ih (f c a)

/-- The bits of a byte presented one by one are the byte presented at once. -/
theorem runAll_dataBits (d : Byte) (s : State) : runAll ((dataBits d).map .crcBit) s = exec (.crcUpd d) s := by
  obtain ⟨b, bs, hbits⟩ : ∃ b bs, dataBits d = b :: bs := ⟨_, _, rfl⟩
  have hrest := runAll_map_append exec_crcBit bs [] (crcBitStep s.crc b) s
  rw [List.append_nil] at hrest
  rw [exec_crcUpd, crcUpd, hbits, List.map_cons, runAll, exec_crcBit]
  exact hrest

/-- Settles O13. -/
theorem crcUpdIsEightBitSteps : Obligations.CrcUpdIsEightBitSteps := by
  intro s d
  constructor
  · rw [exec_crcUpd, crcUpd_eq_crcLoop]
    rfl
  · have hops : ((List.range 8).map fun k => Instr.crcBit (d.getLsbD k)) = (dataBits d).map .crcBit := by
      rw [dataBits, List.map_map]
      rfl
    rw [hops, runAll_dataBits]

/-- CRC.INIT and a message leave the message's CRC in the register, for whatever comes next (R137). -/
theorem runAll_message (m : List Byte) (rest : List Instr) (s : State) :
    runAll (.crcInit :: m.map .crcUpd ++ rest) s = runAll rest ((s.setCrc (crc16 m)).setRes .none) := by
  rw [List.cons_append, runAll, exec_crcInit]
  exact runAll_map_append exec_crcUpd m rest crcInitValue s

/-- Settles O19. -/
theorem crcOfAMessage : Obligations.CrcOfAMessage := by
  intro m s
  constructor
  · have hrun := runAll_message m [] s
    rwa [List.append_nil] at hrun
  · intro lo hi
    refine ⟨crcMatches (crc16 m) lo hi, runAll_message m _ s, ?_⟩
    rw [runAll_message, crcMatches_eq_decide, decide_eq_true_iff]
    constructor
    · rintro ⟨rfl, rfl⟩
      rfl
    · intro h
      have hres := congrArg State.res (Host.Outcome.next.inj h)
      obtain ⟨hlo, hhi⟩ := OpResult.trailer.inj hres
      exact ⟨hlo.symm, hhi.symm⟩

end Sys2Proof.Proofs
end

section
/-! SUPPORT. The frame codec on the state: the equation of each check of DEC.RESP, the registers it takes out of a frame, and
ENC.RDREQ (41_frame_codec.md R160 to R174). -/

namespace Sys2Proof.Proofs

open Sys2Proof.Machine Sys2Proof.Laws

/-! ### The bytes of a frame -/

theorem getElem?_frameByte {buf : List Byte} {i : Nat} (h : i < buf.length) : buf[i]? = some (frameByte buf i) := by
  rw [frameByte, List.getD_eq_getElem _ _ h, List.getElem?_eq_getElem h]

/-- CRC.CHK on a frame's own trailer is the test of the residue over the whole frame (R141, R168). -/
theorem crcMatches_frame {buf : List Byte} (h : 2 ≤ buf.length) :
    crcMatches (crc16 (frameBody buf)) (frameByte buf (buf.length - 2)) (frameByte buf (buf.length - 1)) = true ↔
      crc16 buf = 0#16 := by
  have hsplit := eq_take_append_trailer (frame := buf) (n := buf.length - 2) (by omega)
  rw [show buf.length - 2 + 1 = buf.length - 1 by omega] at hsplit
  conv_rhs => rw [hsplit]
  exact (crc16_append_trailer _ _ _).symm

/-- Register `i` of a byte sequence is made of its bytes `2 i` and `2 i + 1` (R97, R172). -/
theorem getElem?_pairRegs {bs : List Byte} {i : Nat} {h l : Byte} (hh : bs[2 * i]? = some h) (hl : bs[2 * i + 1]? = some l) :
    (pairRegs bs)[i]? = some (beU16 h l) := by
  induction bs using pairRegs.induct generalizing i with
  | case1 a b rest ih =>
    cases i with
    | zero =>
      cases hh
      cases hl
      rfl
    | succ i => exact ih hh hl
  | case2 bs hshort =>
    have hlen : 2 * i + 1 < bs.length := (List.getElem?_eq_some_iff.1 hl).1
    match bs, hshort, hlen with
    | a :: b :: rest, hshort, _ => exact absurd rfl (hshort a b rest)

/-! ### The checks of DEC.RESP, in their order (R166) -/

section
variable {buf : List Byte} {slave : Byte} {n : U16}

theorem decodeResponse_of_short (hlen : buf.length < 5) : decodeResponse buf slave n = .err .shortFrame := if_pos hlen

variable (hlen : 5 ≤ buf.length)
include hlen

theorem decodeResponse_of_badCrc (hcrc : crc16 buf ≠ 0#16) : decodeResponse buf slave n = .err .crcMismatch := by
  have hbad := Bool.eq_false_iff.2 (mt (crcMatches_frame (by omega)).1 hcrc)
  rw [decodeResponse, if_neg (Nat.not_lt.2 hlen), if_pos hbad]

variable (hcrc : crc16 buf = 0#16)
include hcrc

/-- Past the first two checks. -/
theorem decodeResponse_of_goodCrc : decodeResponse buf slave n =
    if frameByte buf 0 ≠ slave then .err .slaveMismatch
    else if (frameByte buf 1).getLsbD 7 then .err (.exceptionResponse (frameByte buf 2))
    else if (frameByte buf 2).toNat ≠ 2 * n.toNat ∨ buf.length ≠ 5 + 2 * n.toNat then .err .shortFrame
    else .ok (pairRegs ((buf.drop 3).take (2 * n.toNat))) := by
  have hgood := (crcMatches_frame (by omega)).2 hcrc
  rw [decodeResponse, if_neg (Nat.not_lt.2 hlen), if_neg (by rw [hgood]; nofun)]

theorem decodeResponse_of_otherSlave (hslave : frameByte buf 0 ≠ slave) :
    decodeResponse buf slave n = .err .slaveMismatch := by
  rw [decodeResponse_of_goodCrc hlen hcrc, if_pos hslave]

variable (hslave : frameByte buf 0 = slave)
include hslave

theorem decodeResponse_of_exception (hfunc : (frameByte buf 1).getLsbD 7 = true) :
    decodeResponse buf slave n = .err (.exceptionResponse (frameByte buf 2)) := by
  rw [decodeResponse_of_goodCrc hlen hcrc, if_neg (not_not.2 hslave), if_pos hfunc]

variable (hfunc : (frameByte buf 1).getLsbD 7 = false)
include hfunc

theorem decodeResponse_of_badCount (hcount : (frameByte buf 2).toNat ≠ 2 * n.toNat ∨ buf.length ≠ 5 + 2 * n.toNat) :
    decodeResponse buf slave n = .err .shortFrame := by
  rw [decodeResponse_of_goodCrc hlen hcrc, if_neg (not_not.2 hslave), if_neg (ne_true_of_eq_false hfunc), if_pos hcount]

theorem decodeResponse_of_goodCount (hcount : (frameByte buf 2).toNat = 2 * n.toNat) (hsize : buf.length = 5 + 2 * n.toNat) :
    decodeResponse buf slave n = .ok (pairRegs ((buf.drop 3).take (2 * n.toNat))) := by
  rw [decodeResponse_of_goodCrc hlen hcrc, if_neg (not_not.2 hslave), if_neg (ne_true_of_eq_false hfunc),
    if_neg (by simp [hcount, hsize])]

end

/-- The registers of a frame of the right size, high byte first (R172). -/
theorem getElem?_frameRegs {buf : List Byte} {n i : Nat} (hsize : buf.length = 5 + 2 * n) (hi : i < n) :
    (pairRegs ((buf.drop 3).take (2 * n)))[i]? = some (frameByte buf (3 + 2 * i) ++ frameByte buf (4 + 2 * i)) := by
  have hbyte {j : Nat} (hj : j < 2 * n) : ((buf.drop 3).take (2 * n))[j]? = some (frameByte buf (3 + j)) := by
    rw [List.getElem?_take_of_lt hj, List.getElem?_drop, getElem?_frameByte (by omega)]
  have hlow := hbyte (j := 2 * i + 1) (by omega)
  rw [show 3 + (2 * i + 1) = 4 + 2 * i by omega] at hlow
  exact getElem?_pairRegs (hbyte (by omega)) hlow

/-! ### What the operations leave -/

theorem exec_decResp (buf : List Byte) (slave : Byte) (n : U16) (s : State) : exec (.decResp buf slave n) s =
    .next ((decodeInto buf slave n s).1.setRes (.decoded (decodeResponse buf slave n))) := by
  rw [← decodeInto_result buf slave n s]
  rfl

theorem exec_encRdreq (slave : Byte) (start n : U16) (s : State) : exec (.encRdreq slave start n) s =
    .next ((encodeRequest slave start n s).setRes (.bytes (requestBytes slave start n))) := rfl

theorem decodeInto_of_ok {buf : List Byte} {slave : Byte} {n : U16} {f : List U16}
    (h : decodeResponse buf slave n = .ok f) (s : State) : (decodeInto buf slave n s).1 =
      { s with crc := crcAfterDecode s.crc buf, regframe := f, regframeValid := true } := by
  rw [decodeInto, h]
  rfl

theorem decodeInto_of_err {buf : List Byte} {slave : Byte} {n : U16} {e : FrameError}
    (h : decodeResponse buf slave n = .err e) (s : State) : (decodeInto buf slave n s).1 =
      { s with crc := crcAfterDecode s.crc buf } := by
  rw [decodeInto, h]
  rfl

theorem decodeInto_crc (buf : List Byte) (slave : Byte) (n : U16) (s : State) :
    (decodeInto buf slave n s).1.crc = crcAfterDecode s.crc buf := by
  rcases decodeInto_spec buf slave n s with ⟨f, _, e⟩ | ⟨_, _, e⟩ <;> rw [e]

/-! ### The obligations -/

/-- Settles O20: `TX` is written at 0..7 and nowhere else. -/
theorem encRdreqBuildsTheRequest : Obligations.EncRdreqBuildsTheRequest := by
  intro s slave a n
  refine ⟨_, exec_encRdreq slave a n s, ⟨_, rfl, rfl, rfl⟩, ?_, fun k hk => read_writeN_other _ _ 0 (.inr (by simpa using hk))⟩
  rintro _ ⟨⟩
  refine ⟨rfl, fun k hk => ?_⟩
  have hread := read_writeN (requestBytes slave a n) s.tx 0 k hk
  rwa [Nat.zero_add] at hread

/-- Settles O21: check by check; what is written depends on the result alone. -/
theorem decRespChecksInOrder : Obligations.DecRespChecksInOrder := by
  intro s buf slave n
  have hcrc : ((decodeInto buf slave n s).1.setRes (.decoded (decodeResponse buf slave n))).crc = crcAfterDecode s.crc buf :=
    decodeInto_crc buf slave n s
  refine ⟨_, _, exec_decResp buf slave n s, rfl, fun e he => ?_, fun f hf => ?_, fun hshort => ?_, fun hlong => ?_⟩
  · rw [decodeInto_of_err he]
    rfl
  · rw [decodeInto_of_ok hf]
    rfl
  · exact ⟨decodeResponse_of_short hshort, hcrc.trans (if_pos hshort)⟩
  · have htrailer : frameByte buf (buf.length - 2) = loByte (crc16 (frameBody buf)) ∧
        frameByte buf (buf.length - 1) = hiByte (crc16 (frameBody buf)) ↔ crc16 buf = 0#16 := by
      rw [← crcMatches_frame (by omega), crcMatches_eq_decide, decide_eq_true_iff]
    refine ⟨crc16 (frameBody buf), frameByte buf 0, frameByte buf 1, frameByte buf 2, frameByte buf (buf.length - 2),
      frameByte buf (buf.length - 1), rfl, hcrc.trans (if_neg (Nat.not_lt.2 hlong)), getElem?_frameByte (by omega),
      getElem?_frameByte (by omega), getElem?_frameByte (by omega), getElem?_frameByte (by omega),
      getElem?_frameByte (by omega), fun hbad => decodeResponse_of_badCrc hlong (mt htrailer.2 hbad), fun hgood => ?_⟩
    have hres := htrailer.1 hgood
    refine ⟨decodeResponse_of_otherSlave hlong hres, fun hslave => ⟨decodeResponse_of_exception hlong hres hslave,
      fun hfunc => ⟨decodeResponse_of_badCount hlong hres hslave hfunc, ?_⟩⟩⟩
    rintro ⟨hcount, hsize⟩
    have hok := decodeResponse_of_goodCount hlong hres hslave hfunc hcount hsize
    exact ⟨_, hok, decodeResponse_length hok, fun i hi => ⟨_, _, getElem?_frameByte (by omega), getElem?_frameByte (by omega),
      getElem?_frameRegs hsize hi⟩⟩

end Sys2Proof.Proofs
end

section
/-! SUPPORT. A response with one corrupted byte, and the response a slave answers a request with (41_frame_codec.md R175, R176). -/

namespace Sys2Proof.Proofs

open Sys2Proof.Machine Sys2Proof.Laws

/-- A frame that decodes has passed the first two checks (R166). -/
theorem goodCrc_of_decodeResponse_ok {buf : List Byte} {slave : Byte} {n : U16} {f : List U16}
    (h : decodeResponse buf slave n = .ok f) : 5 ≤ buf.length ∧ crc16 buf = 0#16 := by
  have hlen : 5 ≤ buf.length := by
    by_contra hshort
    rw [decodeResponse_of_short (Nat.not_le.1 hshort)] at h
    cases h
  refine ⟨hlen, ?_⟩
  by_contra hcrc
  rw [decodeResponse_of_badCrc hlen hcrc] at h
  cases h

/-- Settles O22: the CRC over the frame is zero, and a different byte makes it another value. -/
theorem oneCorruptedByteIsCrcMismatch : Obligations.OneCorruptedByteIsCrcMismatch := by
  intro s buf slave n f k d hok hk hd
  obtain ⟨hlen, hcrc⟩ := goodCrc_of_decodeResponse_ok hok
  have hbad : crc16 (buf.set k d) ≠ 0#16 := hcrc ▸ crc16_set_ne hk hd
  have herr := decodeResponse_of_badCrc (slave := slave) (n := n) (by rwa [List.length_set]) hbad
  exact ⟨_, exec_decResp _ slave n s, congrArg OpResult.decoded herr⟩

/-! ### The round trip -/

theorem withCrc_rspBody_length (slave : Byte) (func : BitVec 7) (v : List U16) :
    (withCrc (rspBody slave func v)).length = 5 + 2 * v.length := by
  simp [withCrc, rspBody]
  omega

/-- The header of a response, its registers, and its trailer (R93). -/
theorem withCrc_rspBody_eq (slave : Byte) (func : BitVec 7) (v : List U16) : ∃ trailer, withCrc (rspBody slave func v) =
    slave :: func.setWidth 8 :: BitVec.ofNat 8 (2 * v.length) :: (regBytes v ++ trailer) :=
  ⟨_, List.append_assoc _ (regBytes v) _⟩

/-- The response with the registers `v` decodes to `v`, if its byte count fits a byte (R176). -/
theorem decodeResponse_withCrc_rspBody (slave : Byte) (func : BitVec 7) {n : U16} {v : List U16} (hv : v.length = n.toNat)
    (hn : n.toNat ≤ 127) : decodeResponse (withCrc (rspBody slave func v)) slave n = .ok v := by
  have hsize := withCrc_rspBody_length slave func v
  have hcrc := crc16_withCrc (rspBody slave func v)
  obtain ⟨trailer, hshape⟩ := withCrc_rspBody_eq slave func v
  rw [hshape] at hsize hcrc ⊢
  have hcount : (BitVec.ofNat 8 (2 * v.length)).toNat = 2 * n.toNat := by
    rw [BitVec.toNat_ofNat, hv]
    omega
  have hregs : (regBytes v ++ trailer).take (2 * n.toNat) = regBytes v :=
    List.take_left' (by rw [regBytes_length, hv])
  rw [decodeResponse_of_goodCount (slave := slave) (by omega) hcrc rfl (func_of_normal func).1 hcount (by rw [hsize, hv])]
  simp only [List.drop_succ_cons, List.drop_zero, hregs, pairRegs_regBytes]

/-- Settles O23. -/
theorem responseRoundTrip : Obligations.ResponseRoundTrip := by
  intro s slave a n v hvalid hmax hv
  obtain ⟨_, _, _, hn, _⟩ := (validPoll_iff s.cfg slave a n).1 hvalid
  have hok := decodeResponse_withCrc_rspBody slave 0x03 hv (hn.trans hmax)
  refine ⟨_, exec_decResp _ slave n s, congrArg OpResult.decoded hok, ?_⟩
  rw [decodeInto_of_ok hok]
  exact ⟨rfl, rfl⟩

end Sys2Proof.Proofs
end

section
/-! SUPPORT. The receiver's view of an answer's waveform is the answer (42_transport_uart.md R201, R205; log 14). -/

namespace Sys2Proof.Proofs

open Sys2Proof.Machine Sys2Proof.Laws

/-! ### The levels of an item -/

theorem parity_eq_none {p : Parity} {d : Byte} (h : parityBit p d = none) : p = .none := by
  cases p with
  | none => rfl
  | even => cases h
  | odd => cases h

/-- With parity an errored character has the wrong parity bit (log 14). -/
theorem errorLevels_of_parity {c : Cfg} {p : Bool} (h : parityBit c.parity 0xFF = some p) :
    errorLevels c = frameLevels 0xFF (some !p) c.stopBits := by
  rw [errorLevels, h]

/-- Without parity its first stop bit is 0 (log 14). -/
theorem errorLevels_of_noParity {c : Cfg} (h : parityBit c.parity 0xFF = none) :
    errorLevels c = (false :: dataBits 0xFF) ++ (false :: List.replicate (c.stopBits - 1) true) := by
  rw [errorLevels, h]

/-- The levels of a character, right or wrong, begin with a start bit and fill a character's time. -/
theorem itemLevels_shape {c : Cfg} (hc : CfgFacts c) (item : LinkItem) :
    (itemLevels c item).length = charBits c ∧ ∃ ls, itemLevels c item = false :: ls := by
  cases item with
  | byte d => exact ⟨charLevels_length c d, _, rfl⟩
  | error =>
    rw [itemLevels]
    cases hp : parityBit c.parity 0xFF with
    | some p =>
      rw [errorLevels_of_parity hp]
      exact ⟨frameLevels_length_eq (d := 0xFF) (by rw [hp]; rfl), _, rfl⟩
    | none =>
      rw [errorLevels_of_noParity hp, charBits, if_pos (parity_eq_none hp)]
      refine ⟨?_, _, rfl⟩
      rcases hc.stopBits with h | h <;> rw [h] <;> rfl

/-- Sampled, the levels of an item give the item back (R201, R203). -/
theorem sampledItem_itemLevels {c : Cfg} (hc : CfgFacts c) (item : LinkItem) :
    sampledItem c (packLevels (itemLevels c item)) = item := by
  have hlen : (itemLevels c item).length ≤ 12 := (itemLevels_shape hc item).1 ▸ charBits_le_twelve hc
  cases item with
  | byte d => rw [itemLevels, charLevels, sampledItem_frameLevels hc d rfl, if_pos rfl]
  | error =>
    rw [itemLevels] at hlen ⊢
    cases hp : parityBit c.parity 0xFF with
    | some p => rw [errorLevels_of_parity hp, sampledItem_frameLevels hc 0xFF (by rw [hp]; rfl), hp, if_neg (by simp)]
    | none =>
      have hstop : (packLevels (errorLevels c)).getLsbD (stopIndex c) = false := by
        rw [packLevels_getLsbD hlen, stopIndex, if_pos (parity_eq_none hp), errorLevels_of_noParity hp]
        rfl
      rw [sampledItem, if_pos hstop]

/-! ### The view, character by character -/

/-- Idle ticks between characters lengthen the gap. -/
theorem viewFrom_idle {c : Cfg} {u : Urx} (hb : u.busy = false) (gap n : Nat) (rest : List Bool) :
    viewFrom c u gap (List.replicate n true ++ rest) = viewFrom c u (gap + n) rest := by
  induction n generalizing gap with
  | zero => rfl
  | succ n ih =>
    have hgap : gapAfter gap u u none = gap + 1 := by simp [gapAfter, hb]
    rw [List.replicate_succ, List.cons_append, viewFrom, urxTick_quiet hb]
    dsimp only
    rw [hgap, ih, Nat.add_assoc, Nat.add_comm 1 n]

theorem viewFrom_of_none {c : Cfg} {u v : Urx} {l : Bool} (h : urxTick c l u = (v, none)) (hv : v.busy = true) (gap : Nat)
    (ls : List Bool) : viewFrom c u gap (l :: ls) = viewFrom c v gap ls := by
  rw [viewFrom, h]
  dsimp only
  rw [gapAfter, if_pos hv]

theorem viewFrom_of_some {c : Cfg} {u v : Urx} {l : Bool} {item : LinkItem} (h : urxTick c l u = (v, some item)) (gap : Nat)
    (ls : List Bool) : viewFrom c u gap (l :: ls) = (gap, item) :: viewFrom c v 0 ls := by
  rw [viewFrom, h]

/-- A character in progress is seen when it ends, and the receiver is then between characters. -/
theorem viewFrom_nextChar {c : Cfg} {u : Urx} {line : List Bool} {n : Nat} {item : LinkItem} (hin : InChar c u line)
    (hnext : nextChar c u line = some (n, item)) (gap : Nat) : ∃ v : Urx, v.enable = true ∧ v.busy = false ∧
      viewFrom c u gap line = (gap, item) :: viewFrom c v 0 (line.drop n) := by
  induction line generalizing u n with
  | nil => cases hnext
  | cons l ls ih =>
    rcases inChar_tick hin with ⟨v, htick, hv⟩ | ⟨v, item', htick, he, hb⟩
    · rw [nextChar_of_none htick] at hnext
      obtain ⟨⟨m, item'⟩, hm, heq⟩ := Option.map_eq_some_iff.1 hnext
      cases heq
      rw [viewFrom_of_none htick hv.busy]
      exact ih hv hm
    · rw [nextChar_of_some htick] at hnext
      cases hnext
      exact ⟨v, he, hb, viewFrom_of_some htick gap ls⟩

/-- The view is the same whether the receiver is taken before or after a start bit has begun. -/
theorem viewFrom_begun {c : Cfg} {u : Urx} (he : u.enable = true) (hb : u.busy = false) {ls : List Bool}
    (hin : InChar c (begun u) (false :: ls)) (gap : Nat) :
    viewFrom c u gap (false :: ls) = viewFrom c (begun u) gap (false :: ls) := by
  have hu := urxTick_begun (c := c) he hb
  rcases inChar_tick hin with ⟨v, htick, hv⟩ | ⟨v, item, htick, _, _⟩
  · rw [viewFrom_of_none (hu.trans htick) hv.busy, viewFrom_of_none htick hv.busy]
  · rw [viewFrom_of_some (hu.trans htick), viewFrom_of_some htick]

/-- A receiver between characters sees the item whose levels come next. -/
theorem viewFrom_item {c : Cfg} (hc : CfgFacts c) {u : Urx} (he : u.enable = true) (hb : u.busy = false) (gap : Nat)
    (item : LinkItem) (rest : List Bool) : ∃ v : Urx, v.enable = true ∧ v.busy = false ∧
      viewFrom c u gap (onLine c (itemLevels c item) ++ rest) = (gap, item) :: viewFrom c v 0 rest := by
  obtain ⟨hlen, ls, hls⟩ := itemLevels_shape hc item
  have hin : InChar c (begun u) (onLine c (itemLevels c item) ++ rest) := hls ▸ inChar_begun hc he hb ls rest
  have hnext := nextChar_begun hc rest he hb hlen (by rw [hls]; rfl)
  rw [sampledItem_itemLevels hc] at hnext
  obtain ⟨v, hve, hvb, hview⟩ := viewFrom_nextChar hin hnext gap
  have hdrop : (onLine c (itemLevels c item) ++ rest).drop (charTicks c) = rest :=
    List.drop_left' (by rw [onLine_length, hlen, charTicks])
  obtain ⟨tail, htail⟩ : ∃ tail, onLine c (itemLevels c item) ++ rest = false :: tail := by
    obtain ⟨k, hk⟩ := Nat.exists_eq_succ_of_ne_zero (Nat.one_le_iff_ne_zero.1 hc.bitTicks)
    exact ⟨_, by rw [hls, onLine, List.flatMap_cons, hk, List.replicate_succ]; rfl⟩
  refine ⟨v, hve, hvb, ?_⟩
  rw [hdrop, htail] at hview
  rw [htail] at hin ⊢
  rw [viewFrom_begun he hb hin, hview]

theorem renderAnswer_cons (c : Cfg) (gap : Nat) (item : LinkItem) (ev : Answer) :
    renderAnswer c ((gap, item) :: ev) = List.replicate gap true ++ (onLine c (itemLevels c item) ++ renderAnswer c ev) :=
  List.append_assoc _ _ _

/-- What the receiver sees of an answer's waveform, with an idle line after it, is the answer. -/
theorem viewFrom_renderAnswer {c : Cfg} (hc : CfgFacts c) (ev : Answer) (k : Nat) {u : Urx} (he : u.enable = true)
    (hb : u.busy = false) : viewFrom c u 0 (renderAnswer c ev ++ List.replicate k true) = ev := by
  induction ev generalizing u with
  | nil =>
    have hidle := viewFrom_idle (c := c) hb 0 k []
    rw [List.append_nil] at hidle
    exact hidle
  | cons e ev ih =>
    obtain ⟨gap, item⟩ := e
    rw [renderAnswer_cons, List.append_assoc, List.append_assoc, viewFrom_idle hb, Nat.zero_add]
    obtain ⟨v, hve, hvb, hview⟩ := viewFrom_item hc he hb gap item (renderAnswer c ev ++ List.replicate k true)
    rw [hview, ih hve hvb]

theorem receiverView_renderAnswer {c : Cfg} (hc : CfgFacts c) (ev : Answer) : receiverView c (renderAnswer c ev) = ev :=
  viewFrom_renderAnswer hc ev _ rfl rfl

end Sys2Proof.Proofs
end

section
/-! SUPPORT. A transaction that is answered, and the poll whose first attempt is (42_transport_uart.md R198, R199, R202, R205;
43_modbus_master.md R242). -/

namespace Sys2Proof.Proofs

open Sys2Proof.Machine Sys2Proof.Laws

/-! ### The link oracle's answers wait until receive-enable -/

theorem drain_answers (s : State) : (drain s).env.answers = s.env.answers := by
  unfold drain
  split <;> simp

theorem leaveDone_answers (s : State) : (leaveDone s).env.answers = s.env.answers := by
  unfold leaveDone
  split <;> simp

theorem waitGap_answers (s : State) : (waitGap s).env.answers = s.env.answers := by
  simp [waitGap, leaveDone_answers, drain_answers]

theorem sendChar_answers (d : Byte) (s : State) : (sendChar d s).env.answers = s.env.answers := by
  simp [sendChar, loadChar, drain_answers]

theorem writeRequest_answers (req : List Byte) (s : State) : (writeRequest req s).env.answers = s.env.answers := by
  unfold writeRequest
  generalize req.drop s.tr.txidx = bytes
  induction bytes generalizing s with
  | nil => rfl
  | cons d ds ih =>
    rw [List.foldl_cons, ih, sendCounted, setTr_env, sendChar_answers]

theorem flushTx_answers (s : State) : (flushTx s).env.answers = s.env.answers := drain_answers _

theorem readResponse_answers (m : Nat) (s : State) : (readResponse m s).env.answers = s.env.answers := by
  simp [readResponse]

/-- Receive-enable puts the next answer onto the line (R205). -/
theorem receiveEnable_env {s : State} {ev : Answer} {rest : List Answer} (h : s.env.answers = ev :: rest) :
    (receiveEnable s).env = { s.env with line := renderAnswer s.cfg ev, answers := rest } := by
  rw [receiveEnable, h]

/-- The receiver hears the answer that is next (R201, R205). -/
theorem receiveEnable_heard {s : State} (hc : CfgFacts s.cfg) {ev : Answer} {rest : List Answer}
    (h : s.env.answers = ev :: rest) : heard (receiveEnable s) = ev := by
  obtain ⟨_, hurx, _⟩ := receiveEnable_spec s
  rw [heard, hurx, if_pos (show urxOn.enable = true from rfl), receiveEnable_env h, (receiveEnable_frame s).cfg,
    receiverView_renderAnswer hc]

/-- TR.RXEN with an answer ready: the receiver hears it, and it is used up (R198, R205). -/
theorem enableReceive_heard {s : State} (hc : CfgFacts s.cfg) {ev : Answer} {rest : List Answer}
    (h : s.env.answers = ev :: rest) : heard (enableReceive s) = ev ∧ (enableReceive s).env.answers = rest := by
  have hframe : SendFrame s (releaseDir (idlePass 1 (drain s))) :=
    sendFrame_trans (drain_frame s) (sendFrame_trans (idlePass_frame 1 _) (releaseDir_frame _))
  have hreleased : (releaseDir (idlePass 1 (drain s))).env.answers = ev :: rest := by
    simp [releaseDir, drain_answers, h]
  rw [enableReceive]
  generalize releaseDir (idlePass 1 (drain s)) = w at hframe hreleased ⊢
  have hcfg : (idlePass w.cfg.turnaround w).cfg = s.cfg := (idlePass_frame _ w).cfg.trans hframe.cfg
  have hturned : (idlePass w.cfg.turnaround w).env.answers = ev :: rest := by rw [idlePass_env, hreleased]
  exact ⟨receiveEnable_heard (hcfg ▸ hc) hturned, by rw [receiveEnable_env hturned]⟩

/-! ### An answered transaction -/

/-- A transaction with an answer ready gives what the reception of this answer gives, and uses it up (R190, R202, R205). -/
theorem transact_answered {s : State} (hc : CfgFacts s.cfg) (req : List Byte) (m : Nat) {ev : Answer} {rest : List Answer}
    (h : s.env.answers = ev :: rest) {r : Reception} (hr : receiveLoop (rxBounds s.cfg m) 0 false [] false ev = r) :
    (transact req m s).2 = transportResult r.ioErr r.bytes ∧ (transact req m s).1.env.answers = rest := by
  rw [transact]
  dsimp only
  generalize hb : flushTx (writeRequest req (assertDir ((waitGap s).setTr { (waitGap s).tr with maxLen := m }))) = b
  have hframe : SendFrame s b := hb ▸ sendFrame_trans (waitGap_frame s) (sendFrame_trans (setTr_frame _ _)
    (sendFrame_trans (assertDir_frame _) (sendFrame_trans (writeRequest_frame req _) (flushTx_frame _))))
  have hanswers : b.env.answers = ev :: rest := by
    rw [← hb, flushTx_answers, writeRequest_answers, ← h, ← waitGap_answers s]
    rfl
  obtain ⟨hheard, hused⟩ := enableReceive_heard (hframe.cfg ▸ hc) hanswers
  have hrec : reception m (enableReceive b) = r := by
    rw [reception, hheard, (enableReceive_frame b).cfg, hframe.cfg, hr]
  exact ⟨by rw [hrec], by rw [readResponse_answers, hused]⟩

/-- Bytes received without an error are the transaction's result (R202). -/
theorem transportResult_of_bytes {bytes : List Byte} (hne : bytes ≠ []) : transportResult false bytes = .ok bytes := by
  rw [transportResult, if_neg Bool.false_ne_true, if_neg (mt List.length_eq_zero_iff.1 hne)]

theorem map_byte_eq_answerOf (ds : List Byte) : (ds.map fun d => (0, LinkItem.byte d)) = answerOf 0 ds := by
  cases ds <;> rfl

/-- Bytes back to back, as many as are asked for and in time, are received whole, and end the reception by length (R199). -/
theorem receiveLoop_answerOf {b : RxBounds} (ht35 : 0 < b.t35) {bytes : List Byte} (hne : bytes ≠ []) (err : Bool) {t g : Nat}
    {seen : Bool} {acc : List Byte} (hgap : seen = true → g < b.t35)
    (htime : t + g + bytes.length * b.charTicks ≤ b.timeout) (hlen : acc.length + bytes.length = b.m) :
    receiveLoop b t seen acc err (answerOf g bytes) =
      { bytes := acc ++ bytes, ioErr := err, reason := .maxlen, endTick := t + g + bytes.length * b.charTicks } := by
  induction bytes generalizing t g seen acc with
  | nil => exact absurd rfl hne
  | cons d ds ih =>
    have htotal : t + g + (d :: ds).length * b.charTicks = t + g + b.charTicks + 0 + ds.length * b.charTicks := by
      rw [List.length_cons, Nat.succ_mul]
      omega
    rw [htotal] at htime ⊢
    have hgo : ¬ (seen = true ∧ b.t35 ≤ g) := fun ⟨hseen, hle⟩ => Nat.not_lt.2 hle (hgap hseen)
    rw [answerOf, map_byte_eq_answerOf, receiveLoop, if_neg hgo]
    dsimp only
    rw [if_neg (by omega)]
    cases ds with
    | nil =>
      rw [if_pos (by simpa using hlen)]
      simp
    | cons d' ds =>
      rw [if_neg (by simp at hlen ⊢; omega), ih (List.cons_ne_nil _ _) (fun _ => ht35) htime (by simp at hlen ⊢; omega),
        List.append_assoc]
      rfl

/-! ### An attempt and a poll that are answered -/

/-- The decoder gets the bytes of a transaction that delivers some (R242). -/
theorem attempt_of_ok {req : List Byte} {slave : Byte} {n : U16} {s : State} {bytes : List Byte}
    (h : (transact req (maxLenOf n.toNat) (s.setMstPhase .transact)).2 = .ok bytes) : attempt req slave n s =
      ((decodeInto bytes slave n ((transact req (maxLenOf n.toNat) (s.setMstPhase .transact)).1.setMstPhase .decode)).1,
        .decoded (decodeResponse bytes slave n)) := by
  rw [← decodeInto_result bytes slave n
    ((transact req (maxLenOf n.toNat) (s.setMstPhase .transact)).1.setMstPhase .decode), attempt, h]

/-- A poll whose attempt gives a frame is over (R242, R244). -/
theorem attempts_of_ok {req : List Byte} {slave : Byte} {n : U16} {s : State} {f : List U16}
    (h : (attempt req slave n s).2 = .decoded (.ok f)) (k : Nat) :
    attempts req slave n k s = ((attempt req slave n s).1, .ok f) := by
  cases k <;> rw [attempts, h] <;> rfl

/-- An attempt that is answered with the response carrying the registers `v`, back to back and in time (R176, R242). -/
theorem attempt_answered {s : State} (hc : CfgFacts s.cfg) (req : List Byte) (slave : Byte) {n : U16} (hn : n.toNat ≤ 127)
    (func : BitVec 7) {v : List U16} (hv : v.length = n.toNat) {g : Nat} {rest : List Answer}
    (htime : g + (5 + 2 * n.toNat) * charTicks s.cfg ≤ s.cfg.respTimeout)
    (hanswers : s.env.answers = answerOf g (withCrc (rspBody slave func v)) :: rest) :
    (attempt req slave n s).2 = .decoded (.ok v) ∧ (attempt req slave n s).1.regframe = v ∧
      (attempt req slave n s).1.regframeValid = true ∧ (attempt req slave n s).1.mst.attempt = s.mst.attempt ∧
      (attempt req slave n s).1.env.answers = rest := by
  have hsize : (withCrc (rspBody slave func v)).length = 5 + 2 * n.toNat := by rw [withCrc_rspBody_length, hv]
  have hne : withCrc (rspBody slave func v) ≠ [] := List.ne_nil_of_length_pos (by omega)
  have ht35 : 0 < t35Ticks s.cfg := by
    have := charTicks_pos hc
    have := t35Ticks_spec s.cfg
    omega
  have hrec := receiveLoop_answerOf (b := rxBounds s.cfg (maxLenOf n.toNat)) ht35 hne false (t := 0) (g := g) (seen := false)
    (acc := []) nofun (by rw [hsize, Nat.zero_add]; exact htime) (by rw [hsize]; exact Nat.zero_add _)
  obtain ⟨hresult, hused⟩ := transact_answered (s := s.setMstPhase .transact) hc req (maxLenOf n.toNat) hanswers hrec
  have hbytes : (transact req (maxLenOf n.toNat) (s.setMstPhase .transact)).2 = .ok (withCrc (rspBody slave func v)) := by
    rw [hresult, List.nil_append, transportResult_of_bytes hne]
  have hok := decodeResponse_withCrc_rspBody slave func hv hn
  have hattempt := mst_attempt_of_linkFrame (transact_frame req (maxLenOf n.toNat) (s.setMstPhase .transact))
  rw [attempt_of_ok hbytes, hok, decodeInto_of_ok hok]
  exact ⟨rfl, rfl, rfl, hattempt, hused⟩

theorem poll_eq_attempts (slave : Byte) (start n : U16) (s : State) : poll slave start n s =
    attempts (requestBytes slave start n) slave n s.cfg.retryCount (pollStart slave start n s) := rfl

theorem pollStart_attempt (slave : Byte) (start n : U16) (s : State) : (pollStart slave start n s).mst.attempt = 0 := rfl

theorem exec_mstPoll {s : State} {slave : Byte} {start n : U16} (h : validPoll s.cfg slave start n = true) :
    exec (.mstPoll slave start n) s =
      .next (((poll slave start n s).1.setMstPhase .wait).setRes (.poll (poll slave start n s).2)) := if_pos h

/-- Settles O43: the first attempt is answered, and its frame ends the poll. -/
theorem goodAnswerIsTheResult : Obligations.GoodAnswerIsTheResult := by
  intro s slave a n func v g rest hwf hvalid hv htime hanswers
  have hc := (cfgWf_iff s.cfg).1 hwf
  have hn : n.toNat ≤ 127 := by
    have := (validPoll_iff s.cfg slave a n).1 hvalid
    have := hc.maxCount
    omega
  obtain ⟨hresult, hframe, hregframe, hattempt, hused⟩ :=
    attempt_answered (s := pollStart slave a n s) hc (requestBytes slave a n) slave hn func hv htime hanswers
  refine ⟨_, exec_mstPoll hvalid, ?_⟩
  rw [pollStart_attempt] at hattempt
  rw [poll_eq_attempts, attempts_of_ok hresult]
  simp [hframe, hregframe, hattempt, hused]

end Sys2Proof.Proofs
end

section
/-! SUPPORT. An answer of the link oracle is what the receiver makes of its waveform (42_transport_uart.md R201, R205; log 14). -/

namespace Sys2Proof.Proofs

open Sys2Proof.Machine Sys2Proof.Laws

/-- Settles O28: the receiver recovers every answer, gap by gap and character by character. -/
theorem answersAreTheReceiversView : Obligations.AnswersAreTheReceiversView :=
  fun c ev hwf => receiverView_renderAnswer ((cfgWf_iff c).1 hwf) ev

end Sys2Proof.Proofs
end

section
/-! SUPPORT. The transmitter: a presented character and the request as they stand on the line, and the transmitter tick by tick
(42_transport_uart.md R194 to R196, R200; 30_encoding.md R96). -/

namespace Sys2Proof.Proofs

open Sys2Proof.Machine Sys2Proof.Laws

/-! ### A presented character -/

/-- The levels of a character one by one (R96). -/
theorem charLevels_eq (c : Cfg) (d : Byte) : charLevels c d = [false] ++ (List.range 8).map d.getLsbD ++
    (parityBit c.parity d).toList ++ List.replicate c.stopBits true := rfl

theorem evenParity_eq (d : Byte) : evenParity d = (List.range 8).foldl (fun p k => xor p (d.getLsbD k)) false :=
  List.foldl_map

/-- Settles O25: what is still to be sent, then the character, each level for a bit time. -/
theorem txcharSendsTheCharacter : Obligations.TxcharSendsTheCharacter := by
  intro s d hwf
  have hsent := sendCounted_sent (charBits_le_twelve ((cfgWf_iff s.cfg).1 hwf)) d
  have hlog := hsent.log
  have hnow := hsent.now
  rw [List.flatMap_singleton, charLevels_eq] at hlog
  rw [List.length_singleton, Nat.one_mul] at hnow
  have f : SendFrame s ((sendChar d s).setRes .none) := sendFrame_trans (sendChar_frame d s) (setRes_frame _ _)
  refine ⟨_, rfl, ?_, hsent.uartTxd, hsent.utx, hsent.urx, hsent.dirState, rfl, hnow, f, read_of_sendFrame f⟩
  cases hpar : s.cfg.parity <;> rw [hpar] at hlog
  case none => exact hlog
  case even => rw [← evenParity_eq]; exact hlog
  case odd => rw [← evenParity_eq]; exact hlog

/-! ### The direction and the flush -/

/-- A transaction that begins takes the maximum of the configured request, one under way keeps its own (R204, R64; log 22). -/
theorem maxLenIn_active (s : State) {p : TrPhase} (hp : p.resting = false) : maxLenIn s p =
    if s.tr.phase = .idle ∨ s.tr.phase = .done then 5 + 2 * s.cfg.count else s.tr.maxLen := by
  rw [maxLenIn, hp]
  cases s.tr.phase <;> rfl

theorem passTicks_phase {s : State} (h : s.tr.phase ≠ .done) (n : Nat) : (passTicks n s).tr.phase = s.tr.phase := by
  unfold passTicks
  split <;> rfl

theorem busyPass_phase {s : State} (h : s.tr.phase ≠ .done) (n : Nat) : (busyPass n s).tr.phase = s.tr.phase := by
  unfold busyPass
  split
  · rfl
  · exact passTicks_phase h n

/-- A transmitter that finishes keeps a phase other than DONE. -/
theorem drain_phase {s : State} (h : s.tr.phase ≠ .done) : (drain s).tr.phase = s.tr.phase := by
  unfold drain
  split
  · simp only [setEnv_tr, setUartTxd_tr, setUtx_tr, busyPass_phase h]
  · rfl

/-- Settles O31: the registers TR.TXEN writes, and TR.FLUSH as the rest of what is being sent. -/
theorem txenAndFlush : Obligations.TxenAndFlush := by
  intro s
  constructor
  · rw [← maxLenIn_active s (show TrPhase.tx.resting = false from rfl)]
    rfl
  · obtain ⟨hlog, hnow⟩ := drain_sends (s.enterPhase .flush)
    have f : SendFrame s ((flushTx s).setRes .none) := sendFrame_trans (flushTx_frame s) (setRes_frame _ _)
    exact ⟨_, rfl, flushTx_busy s, drain_phase (s := s.enterPhase .flush) nofun, drain_dirState _, drain_urx _, hnow, hlog, rfl, f,
      read_of_sendFrame f⟩

/-! ### The request -/

theorem exec_trWrite {s : State} {req : List Byte} (h : txOperand s = some req) :
    exec .trWrite s = .next ((writeRequest req s).setRes .none) := by
  rw [exec, execTrWrite, h]

/-- A request byte that holds no value leaves no request to read (R64). -/
theorem txOperand_eq_none {s : State} {k : Nat} (hk : k < 8) (h : Memory.read s.tx k = none) : txOperand s = none := by
  cases hreq : txOperand s with
  | none => rfl
  | some req =>
    obtain ⟨hlen, hbytes⟩ := read_of_readN hreq
    have hbyte := hbytes k hk
    rw [Nat.zero_add, h] at hbyte
    have := List.getElem?_eq_none_iff.1 hbyte.symm
    omega

/-- Settles O32: the bytes from the index on go out back to back, none are left at index 8, and a missing request is a fault. -/
theorem writeSendsTheRequest : Obligations.WriteSendsTheRequest := by
  intro s hwf
  refine ⟨fun req hreq => ?_, fun ⟨k, hk, hnone⟩ => ?_⟩
  · obtain ⟨hlen, _⟩ := read_of_readN hreq
    refine ⟨fun hidx => ?_, fun hidx => ?_⟩
    · have hleft : (req.drop s.tr.txidx).length = 8 - s.tr.txidx := by rw [List.length_drop, hlen]
      have hne : req.drop s.tr.txidx ≠ [] := List.ne_nil_of_length_pos (by omega)
      have hsent : Sent s (writeRequest req s) (req.drop s.tr.txidx) :=
        foldl_sendCounted_sent hne (charBits_le_twelve ((cfgWf_iff s.cfg).1 hwf))
      have hcount : (writeRequest req s).tr.txidx = 8 := by rw [hsent.txidx, hleft]; omega
      have hnow := hsent.now
      rw [hleft] at hnow
      have f : SendFrame s ((writeRequest req s).setRes .none) :=
        sendFrame_trans (writeRequest_frame req s) (setRes_frame _ _)
      exact ⟨_, exec_trWrite hreq, hcount, hsent.utx, hsent.uartTxd, hsent.log, hnow, hsent.dirState, hsent.urx, rfl, f,
        read_of_sendFrame f⟩
    · have hnothing : writeRequest req s = s := by
        rw [writeRequest, List.drop_of_length_le (by omega)]
        rfl
      rw [exec_trWrite hreq, hnothing]
      rfl
  · rw [exec, execTrWrite, txOperand_eq_none hk hnone]

/-! ### The transmitter tick by tick -/

/-- The transmitter in tick `r` of bit time `j` of byte `d` (R200): the level on the line in bit 0. -/
def utxAt (c : Cfg) (d : Byte) (j r : Nat) : Utx :=
  { shift := packLevels (charLevels c d) >>> j, bitcnt := j, tickcnt := r, busy := true }

/-- `t` carries tick `k` of byte `d`: a bit time that has begun before the character is over. -/
structure Carries (c : Cfg) (d : Byte) (k j r : Nat) (t : State) : Prop where
  cfg : t.cfg = c
  tick : r < c.bitTicks
  bit : j < charBits c
  count : k = j * c.bitTicks + r
  utx : t.utx = utxAt c d j r
  uartTxd : t.uartTxd = (utxAt c d j r).shift.getLsbD 0

/-- What follows tick `k`: the next tick of the bit, the first of the next bit, or rest after the last. -/
theorem utxTick_at {c : Cfg} {d : Byte} {k j r : Nat} {t : State} (h : Carries c d k j r t) :
    (∃ j' r', r' < c.bitTicks ∧ j' < charBits c ∧ k + 1 = j' * c.bitTicks + r' ∧
      utxTick c t.utx t.uartTxd = (utxAt c d j' r', (utxAt c d j' r').shift.getLsbD 0)) ∨
    (k + 1 = charTicks c ∧ utxTick c t.utx t.uartTxd = (utxOff, true)) := by
  obtain ⟨_, htick, hbit, hcount, hutx, htxd⟩ := h
  rw [hutx, htxd]
  rcases utxTick_cases c (utxAt c d j r) ((utxAt c d j r).shift.getLsbD 0) with
    ⟨hb, _⟩ | ⟨_, hlt, e⟩ | ⟨_, hle, hmore, e⟩ | ⟨_, hle, hend, e⟩
  · cases hb
  · exact .inl ⟨j, r + 1, hlt, hbit, by rw [hcount, Nat.add_assoc], e⟩
  · change c.bitTicks ≤ r + 1 at hle
    refine .inl ⟨j + 1, 0, by omega, hmore, by rw [hcount, Nat.succ_mul]; omega, ?_⟩
    rw [e, utxAt, utxAt, ← BitVec.shiftRight_add]
  · change c.bitTicks ≤ r + 1 at hle
    change charBits c ≤ j + 1 at hend
    refine .inr ⟨?_, e⟩
    rw [charTicks, show charBits c = j + 1 by omega, Nat.succ_mul, hcount]
    omega

theorem transportTick_sender (before : State) (item : Option LinkItem) (s : State) :
    (transportTick before item s).utx = s.utx ∧ (transportTick before item s).uartTxd = s.uartTxd := by
  unfold transportTick
  split
  · exact ⟨rfl, rfl⟩
  · exact ⟨rfl, rfl⟩
  · split <;> exact ⟨rfl, rfl⟩
  · unfold receptionTick
    split
    · exact ⟨rfl, rfl⟩
    · dsimp only
      split <;> exact ⟨rfl, rfl⟩
  all_goals exact ⟨rfl, rfl⟩

/-- A tick moves the transmitter on, whatever else it does. -/
theorem tickWith_sender (rxd : Bool) (s : State) : (tickWith rxd s).utx = (utxTick s.cfg s.utx s.uartTxd).1 ∧
    (tickWith rxd s).uartTxd = (utxTick s.cfg s.utx s.uartTxd).2 := by
  obtain ⟨hutx, htxd⟩ := transportTick_sender s (urxTick s.cfg rxd s.urx).2 (countedTick rxd s)
  rw [tickWith_eq, hutx, htxd, countedTick_utx, countedTick_uartTxd]
  exact ⟨rfl, rfl⟩

theorem loadChar_carries (s : State) (d : Byte) (hc : CfgFacts s.cfg) : Carries s.cfg d 0 0 0 (loadChar d s) where
  cfg := loadChar_cfg d s
  tick := hc.bitTicks
  bit := by have := ten_le_charBits hc; omega
  count := by rw [Nat.zero_mul]
  utx := by rw [loadChar_utx, utxAt, BitVec.ushiftRight_zero]
  uartTxd := by rw [loadChar_uartTxd, utxAt, BitVec.ushiftRight_zero]

/-- The last of `k + 1` ticks. -/
theorem lineTicks_succ (k : Nat) (s : State) :
    lineTicks (k + 1) s = tickWith (rxdPort (lineTicks k s)) (lineTicks k s) := lineTicks_add k 1 s

/-- On tick `k` the character is at bit time `k / BIT_TICKS`. -/
theorem lineTicks_carries {s : State} (hc : CfgFacts s.cfg) (d : Byte) {k : Nat} (hk : k < charTicks s.cfg) :
    ∃ j r, Carries s.cfg d k j r (lineTicks k (loadChar d s)) := by
  induction k with
  | zero => exact ⟨0, 0, loadChar_carries s d hc⟩
  | succ k ih =>
    obtain ⟨j, r, h⟩ := ih (by omega)
    obtain ⟨hutx, htxd⟩ := tickWith_sender (rxdPort (lineTicks k (loadChar d s))) (lineTicks k (loadChar d s))
    rw [h.cfg] at hutx htxd
    rw [lineTicks_succ]
    rcases utxTick_at h with ⟨j', r', htick, hbit, hcount, e⟩ | ⟨hlast, _⟩
    · rw [e] at hutx htxd
      exact ⟨j', r', ((tickWith_frame _ _).cfg).trans h.cfg, htick, hbit, hcount, hutx, htxd⟩
    · omega

/-- Bit 0 of the shift register is the level of the bit time. -/
theorem carries_level {c : Cfg} (hc : CfgFacts c) {d : Byte} {k j r : Nat} {t : State} (h : Carries c d k j r t) :
    (charLevels c d)[k / c.bitTicks]? = some t.uartTxd := by
  have hlen := charLevels_length c d
  have hdiv : k / c.bitTicks = j := by
    rw [h.count, Nat.add_comm, Nat.add_mul_div_right _ _ hc.bitTicks, Nat.div_eq_of_lt h.tick, Nat.zero_add]
  rw [hdiv, h.uartTxd, utxAt, BitVec.getLsbD_ushiftRight, Nat.add_zero,
    packLevels_getLsbD (hlen ▸ charBits_le_twelve hc), List.getElem?_eq_getElem (hlen ▸ h.bit),
    List.getD_eq_getElem _ _ (hlen ▸ h.bit)]

/-- Settles O26: the register shifts once a bit time, and the character is over after `CHAR_TICKS`. -/
theorem transmitterTickByTick : Obligations.TransmitterTickByTick := by
  intro s d hwf
  have hc := (cfgWf_iff s.cfg).1 hwf
  refine ⟨fun k hk => ?_, ?_⟩
  · obtain ⟨j, r, h⟩ := lineTicks_carries hc d hk
    exact ⟨by rw [h.utx]; rfl, carries_level hc h⟩
  · have hpos := charTicks_pos hc
    obtain ⟨k, hk⟩ := Nat.exists_eq_succ_of_ne_zero hpos.ne'
    obtain ⟨j, r, h⟩ := lineTicks_carries hc d (k := k) (by omega)
    obtain ⟨hutx, htxd⟩ := tickWith_sender (rxdPort (lineTicks k (loadChar d s))) (lineTicks k (loadChar d s))
    rw [h.cfg] at hutx htxd
    rw [hk, Nat.succ_eq_add_one, lineTicks_succ, hutx, htxd]
    rcases utxTick_at h with ⟨j', r', htick, hbit, hcount, _⟩ | ⟨_, e⟩
    · have hle : (j' + 1) * s.cfg.bitTicks ≤ charBits s.cfg * s.cfg.bitTicks := Nat.mul_le_mul_right _ hbit
      rw [Nat.succ_mul, ← charTicks] at hle
      omega
    · rw [e]
      exact ⟨rfl, rfl⟩

end Sys2Proof.Proofs
end

section
/-! SUPPORT. Receive-enable, the reception's result and the transaction as a whole (42_transport_uart.md R190, R197 to R199, R202,
R204, R205; 20_memory.md R64). -/

namespace Sys2Proof.Proofs

open Sys2Proof.Machine Sys2Proof.Laws

/-! ### The maximum length while time passes -/

/-- From `s` to `t` no transaction begins or ends, and `tr.max_len` stays. -/
structure KeepsMaxLen (s t : State) : Prop where
  cfg : t.cfg = s.cfg
  resting : t.tr.phase.resting = s.tr.phase.resting
  maxLen : t.tr.maxLen = s.tr.maxLen

theorem keepsMaxLen_trans {s t u : State} (h : KeepsMaxLen s t) (k : KeepsMaxLen t u) : KeepsMaxLen s u :=
  ⟨k.cfg.trans h.cfg, k.resting.trans h.resting, k.maxLen.trans h.maxLen⟩

/-- DONE and IDLE are both phases of rest (R191). -/
theorem passTicks_keepsMaxLen (n : Nat) (s : State) : KeepsMaxLen s (passTicks n s) := by
  refine ⟨passTicks_cfg n s, ?_, ?_⟩ <;> unfold passTicks
  · split
    · rfl
    · cases s.tr.phase <;> rfl
  · split <;> rfl

theorem idlePass_keepsMaxLen (n : Nat) (s : State) : KeepsMaxLen s (idlePass n s) := by
  have h := passTicks_keepsMaxLen n s
  refine ⟨idlePass_cfg n s, ?_, ?_⟩ <;> unfold idlePass <;> split
  · rfl
  · exact h.resting
  · rfl
  · exact h.maxLen

theorem busyPass_keepsMaxLen (n : Nat) (s : State) : KeepsMaxLen s (busyPass n s) := by
  have h := passTicks_keepsMaxLen n s
  refine ⟨busyPass_cfg n s, ?_, ?_⟩ <;> unfold busyPass <;> split
  · rfl
  · exact h.resting
  · rfl
  · exact h.maxLen

theorem drain_keepsMaxLen (s : State) : KeepsMaxLen s (drain s) := by
  have h := busyPass_keepsMaxLen (utxLeft s.cfg s.utx).length s
  refine ⟨(drain_frame s).cfg, ?_, ?_⟩ <;> unfold drain <;> split
  · exact h.resting
  · rfl
  · exact h.maxLen
  · rfl

theorem leaveDone_keepsMaxLen (s : State) : KeepsMaxLen s (leaveDone s) := by
  unfold leaveDone
  split
  · exact idlePass_keepsMaxLen 1 s
  · exact ⟨rfl, rfl, rfl⟩

theorem maxLenIn_of_keeps {s t : State} (h : KeepsMaxLen s t) (p : TrPhase) : maxLenIn t p = maxLenIn s p := by
  rw [maxLenIn, maxLenIn, h.resting, h.cfg, h.maxLen]

/-- A phase of a transaction under way is entered from another. -/
theorem enterPhase_keepsMaxLen {s : State} (h : s.tr.phase.resting = false) {p : TrPhase} (hp : p.resting = false) :
    KeepsMaxLen s (s.enterPhase p) :=
  ⟨rfl, hp.trans h.symm, maxLenIn_kept h p⟩

theorem sendCounted_keepsMaxLen (s : State) (d : Byte) : KeepsMaxLen s (sendCounted s d) := by
  have hload : KeepsMaxLen (drain s) (loadChar d (drain s)) := ⟨rfl, rfl, rfl⟩
  have hsend : KeepsMaxLen s (sendChar d s) :=
    keepsMaxLen_trans (drain_keepsMaxLen s) (keepsMaxLen_trans hload (drain_keepsMaxLen _))
  exact ⟨hsend.cfg, hsend.resting, hsend.maxLen⟩

theorem writeRequest_keepsMaxLen (req : List Byte) (s : State) : KeepsMaxLen s (writeRequest req s) := by
  unfold writeRequest
  generalize req.drop s.tr.txidx = bytes
  induction bytes generalizing s with
  | nil => exact ⟨rfl, rfl, rfl⟩
  | cons d ds ih => exact keepsMaxLen_trans (sendCounted_keepsMaxLen s d) (ih _)

/-! ### TR.RXEN -/

/-- The state in which the turnaround is over: the flush done, the direction released, the receiver still off (R197, R198). -/
def turned (s : State) : State := idlePass s.cfg.turnaround (releaseDir (idlePass 1 (drain s)))

theorem releaseDir_cfg (s : State) : (releaseDir s).cfg = s.cfg := rfl

theorem enableReceive_eq (s : State) : enableReceive s = receiveEnable (turned s) := by
  rw [enableReceive, turned, releaseDir_cfg, idlePass_cfg, (drain_frame s).cfg]

theorem turned_frame (s : State) : SendFrame s (turned s) :=
  sendFrame_trans (drain_frame s) (sendFrame_trans (idlePass_frame 1 _) (sendFrame_trans (releaseDir_frame _)
    (idlePass_frame _ _)))

theorem turned_dirState (s : State) : (turned s).dirState = false := idlePass_dirState _ _

theorem turned_busy (s : State) : (turned s).utx.busy = false := by
  rw [turned, idlePass_utx]
  exact (congrArg Utx.busy (idlePass_utx 1 _)).trans (drain_busy s)

theorem turned_maxLen (s : State) : (turned s).tr.maxLen = maxLenIn s .turn := by
  rw [turned, (idlePass_keepsMaxLen _ _).maxLen]
  exact maxLenIn_of_keeps (keepsMaxLen_trans (drain_keepsMaxLen s) (idlePass_keepsMaxLen 1 _)) .turn

/-- A tick for the release, the turnaround after it (R197, R198). -/
theorem turned_now (s : State) :
    (turned s).now = s.now + BitVec.ofNat 64 ((pendingLevels s).length + 1 + s.cfg.turnaround) := by
  have hreleased : (releaseDir (idlePass 1 (drain s))).now = (idlePass 1 (drain s)).now := rfl
  rw [turned, idlePass_now, hreleased, idlePass_now, (drain_sends s).2, add_ofNat_add, add_ofNat_add, Nat.add_assoc]

theorem turned_env (s : State) : (turned s).env.txdLog = s.env.txdLog ++ pendingLevels s ∧
    (turned s).env.answers = s.env.answers := by
  have hreleased : (releaseDir (idlePass 1 (drain s))).env = (idlePass 1 (drain s)).env := rfl
  rw [turned, idlePass_env, hreleased, idlePass_env]
  exact ⟨(drain_sends s).1, drain_answers s⟩

theorem receiveEnable_log_answers (s : State) : (receiveEnable s).env.txdLog = s.env.txdLog ∧
    (receiveEnable s).env.answers = s.env.answers.tail := by
  unfold receiveEnable
  cases h : s.env.answers <;> simp [h]

theorem enableReceive_answers (s : State) : (enableReceive s).env.answers = s.env.answers.tail := by
  obtain ⟨_, hanswers⟩ := receiveEnable_log_answers (turned s)
  rw [enableReceive_eq, hanswers, (turned_env s).2]

theorem enableReceive_line {s : State} {ev : Answer} {rest : List Answer} (h : s.env.answers = ev :: rest) :
    (enableReceive s).env.line = renderAnswer s.cfg ev := by
  rw [enableReceive_eq, receiveEnable_env ((turned_env s).2.trans h), (turned_frame s).cfg]

/-- Settles O33: the flush, the release, the turnaround and receive-enable, one after another. -/
theorem rxenReleasesAndListens : Obligations.RxenReleasesAndListens := by
  intro s
  obtain ⟨hphase, hurx, hrx, hrxlen, herr, hsilence, htimeout, hmax, hdir, hnow, hutx⟩ := receiveEnable_spec (turned s)
  obtain ⟨hlog, _⟩ := receiveEnable_log_answers (turned s)
  have hanswers := enableReceive_answers s
  have hline := @enableReceive_line s
  have f : LinkFrame s ((enableReceive s).setRes .none) :=
    linkFrame_trans (enableReceive_frame s) (setRes_frame _ _).toLinkFrame
  rw [turned_maxLen, maxLenIn_active s rfl] at hmax
  rw [(turned_env s).1] at hlog
  rw [turned_now] at hnow
  refine ⟨_, rfl, ?_⟩
  rw [enableReceive_eq] at f hanswers hline ⊢
  exact ⟨hdir.trans (turned_dirState s), (congrArg Utx.busy hutx).trans (turned_busy s), hphase, hurx, hrxlen,
    fun a => congrArg (Memory.read · a) hrx, herr, hsilence, htimeout, rfl, hmax, hnow, hlog, hanswers,
    fun _ _ => hline, f, fun a => congrArg (Memory.read · a) f.tx⟩

/-! ### TR.READ -/

/-- Bytes written into an empty space are what it reads as. -/
theorem read_writeN_nil (bs : List Byte) (k : Nat) : Memory.read (Memory.writeN [] 0 bs) k = bs[k]? := by
  rcases Nat.lt_or_ge k bs.length with h | h
  · have := read_writeN bs [] 0 k h
    rwa [Nat.zero_add] at this
  · rw [read_writeN_other bs [] 0 (.inr (by omega)), read_nil, List.getElem?_eq_none h]

theorem readResponse_utx (m : Nat) (s : State) : (readResponse m s).utx = s.utx := by simp [readResponse]

theorem readResponse_txdLog (m : Nat) (s : State) : (readResponse m s).env.txdLog = s.env.txdLog := by simp [readResponse]

/-- A transaction that ends keeps its maximum length (R64). -/
theorem readResponse_maxLen (m : Nat) (s : State) : (readResponse m s).tr.maxLen = s.tr.maxLen := by
  have hkept := (passTicks_keepsMaxLen (reception m s).endTick s).maxLen
  rw [readResponse]
  simp only [setTr_tr, enterPhase_maxLen, maxLenIn_rests (show TrPhase.done.resting = true from rfl), hkept]

theorem transportResult_eq (err : Bool) (bytes : List Byte) : transportResult err bytes =
    if err then .err .ioFailure else if bytes = [] then .err .timeout else .ok bytes := by
  rw [transportResult]
  simp only [List.length_eq_zero_iff]

theorem exec_trRead {s : State} (h : s.tr.phase ≠ .idle) : exec .trRead s =
    .next ((readResponse (drain s).tr.maxLen (drain s)).setRes (.transport (transportResult
      (reception (drain s).tr.maxLen (drain s)).ioErr (reception (drain s).tr.maxLen (drain s)).bytes))) := if_neg h

/-- Settles O34: the transmitter finishes, then the reception's ticks pass; in phase IDLE `tr.max_len` holds no value. -/
theorem readGivesTheReception : Obligations.ReadGivesTheReception := by
  intro s
  refine ⟨fun hphase => ?_, fun hphase => if_pos hphase⟩
  have hmax := (drain_keepsMaxLen s).maxLen
  have hexec := exec_trRead hphase
  rw [hmax] at hexec
  obtain ⟨hlog, hnow⟩ := drain_sends s
  obtain ⟨hrx, hrxlen, herr, hurx, hdone, htime, hdir⟩ := readResponse_spec s.tr.maxLen (drain s)
  have f := linkFrame_trans (drain_frame s).toLinkFrame (readResponse_frame s.tr.maxLen (drain s))
  generalize hr : reception s.tr.maxLen (drain s) = r at *
  rw [transportResult_eq] at hexec
  refine ⟨_, drain s, r, hexec, rfl, drain_idle, hmax, hr.symm, hdone, ?_, ?_, hurx, hdir.trans (drain_dirState s), hrxlen, ?_,
    herr, ?_, rfl, linkFrame_trans f (setRes_frame _ _).toLinkFrame, fun a => congrArg (Memory.read · a) f.tx⟩
  · rw [setRes_utx, readResponse_utx, drain_busy]
  · rw [setRes_env, readResponse_txdLog, hlog]
  · exact fun k => (congrArg (Memory.read · k) hrx).trans (read_writeN_nil _ k)
  · rw [setRes_now, htime, hnow, add_ofNat_add]

/-! ### TR.TRANSACT -/

/-- The state in which the request of a transaction has been sent (R193 to R196). -/
def requested (req : List Byte) (m : Nat) (s : State) : State :=
  flushTx (writeRequest req (assertDir ((waitGap s).setTr { (waitGap s).tr with maxLen := m })))

theorem transact_eq (req : List Byte) (m : Nat) (s : State) : transact req m s =
    (readResponse m (enableReceive (requested req m s)),
      transportResult (reception m (enableReceive (requested req m s))).ioErr
        (reception m (enableReceive (requested req m s))).bytes) := rfl

theorem requested_answers (req : List Byte) (m : Nat) (s : State) : (requested req m s).env.answers = s.env.answers := by
  rw [requested, flushTx_answers, writeRequest_answers, ← waitGap_answers s]
  rfl

/-- The transaction under way carries its maximum length from TR.GAP on (R190, R204). -/
theorem requested_maxLen (req : List Byte) (m : Nat) (s : State) :
    (requested req m s).tr.phase = .flush ∧ (requested req m s).tr.maxLen = m := by
  rw [requested]
  generalize hg : (waitGap s).setTr { (waitGap s).tr with maxLen := m } = g
  have hactive : g.tr.phase.resting = false := by
    rw [← hg]
    exact congrArg TrPhase.resting (waitGap_spec s).1
  have hmax : g.tr.maxLen = m := by rw [← hg]; rfl
  have hasserted : KeepsMaxLen g (assertDir g) := ⟨rfl, hactive.symm, maxLenIn_kept hactive .tx⟩
  have hsent := keepsMaxLen_trans hasserted (writeRequest_keepsMaxLen req _)
  have hflushed := keepsMaxLen_trans (enterPhase_keepsMaxLen (hsent.resting.trans hactive) (p := .flush) rfl)
    (drain_keepsMaxLen _)
  exact ⟨drain_phase (s := (writeRequest req (assertDir g)).enterPhase .flush) nofun,
    (keepsMaxLen_trans hsent hflushed).maxLen.trans hmax⟩

theorem enableReceive_requested_maxLen (req : List Byte) (m : Nat) (s : State) :
    (enableReceive (requested req m s)).tr.maxLen = m := by
  obtain ⟨_, _, _, _, _, _, _, hkept, _⟩ := receiveEnable_spec (turned (requested req m s))
  obtain ⟨hphase, hmax⟩ := requested_maxLen req m s
  rw [enableReceive_eq, hkept, turned_maxLen, maxLenIn_kept (by rw [hphase]; rfl), hmax]

theorem transact_answers (req : List Byte) (m : Nat) (s : State) :
    (transact req m s).1.env.answers = s.env.answers.tail := by
  rw [transact_eq, readResponse_answers, enableReceive_answers, requested_answers]

/-- What stands in the receive buffer after a transaction is what its result says (R202). -/
theorem transact_result {req : List Byte} {m : Nat} (hm : 1 ≤ m) (s : State) :
    (∀ bs, (transact req m s).2 = .ok bs → 1 ≤ bs.length ∧ bs.length ≤ m ∧ (transact req m s).1.rxlen = bs.length ∧
      ∀ k, Memory.read (transact req m s).1.rx k = bs[k]?) ∧
    ((transact req m s).2 = .err .timeout → (transact req m s).1.rxlen = 0) ∧
    ((transact req m s).2 = .err .ioFailure ↔ (transact req m s).1.tr.ioErr = true) := by
  rw [transact_eq, transportResult_eq]
  generalize enableReceive (requested req m s) = e
  obtain ⟨hrx, hrxlen, herr, _⟩ := readResponse_spec m e
  obtain ⟨_, hle, _⟩ := receiveLoop_spec (rxBounds e.cfg m) 0 false [] false (heard e) (Nat.zero_le _) hm
  change (reception m e).bytes.length ≤ m at hle
  dsimp only
  rw [hrx, hrxlen, herr]
  cases hio : (reception m e).ioErr with
  | true => exact ⟨nofun, nofun, fun _ => rfl, fun _ => rfl⟩
  | false =>
    by_cases hnone : (reception m e).bytes = []
    · simp [hnone]
    · simp only [hnone, Bool.false_eq_true, if_false]
      refine ⟨?_, nofun, nofun, nofun⟩
      rintro _ ⟨⟩
      exact ⟨List.length_pos_iff.2 hnone, hle, rfl, read_writeN_nil _⟩

theorem transact_rests (req : List Byte) (m : Nat) (s : State) :
    (transact req m s).1.dirState = false ∧ (transact req m s).1.utx.busy = false := by
  obtain ⟨_, _, _, _, _, _, _, _, hdir, _, hutx⟩ := receiveEnable_spec (turned (requested req m s))
  obtain ⟨_, _, _, _, _, _, hkept⟩ := readResponse_spec m (enableReceive (requested req m s))
  rw [transact_eq]
  dsimp only
  rw [hkept, readResponse_utx, enableReceive_eq, hdir, hutx]
  exact ⟨turned_dirState _, turned_busy _⟩

/-- Settles O37: the six steps in every state, and what they leave. -/
theorem transactCompletes : Obligations.TransactCompletes := by
  intro s req m hwf hm
  obtain ⟨hphase, hurx⟩ := transact_phase req m s
  obtain ⟨hdir, hbusy⟩ := transact_rests req m s
  obtain ⟨hok, htimeout, hio⟩ := transact_result (req := req) hm s
  have hmax : (transact req m s).1.tr.maxLen = m :=
    (readResponse_maxLen m _).trans (enableReceive_requested_maxLen req m s)
  have f := linkFrame_trans (transact_frame req m s) (setRes_frame _ (.transport (transact req m s).2)).toLinkFrame
  exact ⟨_, _, rfl, rfl, hphase, hdir, hurx, hbusy, hmax, hok, htimeout, hio, transact_answers req m s, f,
    fun a => congrArg (Memory.read · a) f.tx⟩

end Sys2Proof.Proofs
end

section
/-! SUPPORT. A slave that does not answer (42_transport_uart.md R202; 43_modbus_master.md R244, R246). -/

namespace Sys2Proof.Proofs

open Sys2Proof.Machine Sys2Proof.Laws

/-- An attempt on a silent line times out with nothing received (R202). -/
theorem attempt_silent {s : State} (hc : CfgFacts s.cfg) (req : List Byte) (slave : Byte) (n : U16) {rest : List Answer}
    (h : s.env.answers = [] :: rest) : (attempt req slave n s).2 = .transport .timeout ∧
      (attempt req slave n s).1.env.answers = rest ∧ (attempt req slave n s).1.rxlen = 0 ∧
      (attempt req slave n s).1.mst.attempt = s.mst.attempt := by
  obtain ⟨hresult, hused⟩ := transact_answered (s := s.setMstPhase .transact) hc req (maxLenOf n.toNat) h rfl
  have htimeout : (transact req (maxLenOf n.toNat) (s.setMstPhase .transact)).2 = .err .timeout := hresult
  have hm : 1 ≤ maxLenOf n.toNat := by rw [maxLenOf]; omega
  obtain ⟨_, hempty, _⟩ := transact_result (req := req) hm (s.setMstPhase .transact)
  have hattempt := mst_attempt_of_linkFrame (transact_frame req (maxLenOf n.toNat) (s.setMstPhase .transact))
  rw [attempt, htimeout]
  exact ⟨rfl, hused, hempty htimeout, hattempt⟩

/-- A retry that is still allowed begins the next attempt after the backoff; the last one ends the poll (R242, R245). -/
theorem attempts_of_timeout {req : List Byte} {slave : Byte} {n : U16} {s : State}
    (h : (attempt req slave n s).2 = .transport .timeout) :
    attempts req slave n 0 s = ((attempt req slave n s).1, .err .unreachable) ∧
    ∀ k, attempts req slave n (k + 1) s = attempts req slave n k
      (returnFromError (idlePass (attempt req slave n s).1.cfg.backoff (takeError (attempt req slave n s).1))) := by
  refine ⟨by rw [attempts, h]; rfl, fun k => by rw [attempts_succ, h]; rfl⟩

/-- With a silent line on every attempt the poll uses them all up. -/
theorem attempts_silent (req : List Byte) (slave : Byte) (n : U16) (k : Nat) {s : State} (hc : CfgFacts s.cfg)
    {rest : List Answer} (h : s.env.answers = List.replicate (k + 1) [] ++ rest) :
    (attempts req slave n k s).2 = .err .unreachable ∧ (attempts req slave n k s).1.mst.attempt = s.mst.attempt + k ∧
      (attempts req slave n k s).1.env.answers = rest ∧ (attempts req slave n k s).1.rxlen = 0 := by
  induction k generalizing s with
  | zero =>
    obtain ⟨houtcome, hused, hempty, hattempt⟩ := attempt_silent hc req slave n h
    rw [(attempts_of_timeout houtcome).1]
    exact ⟨rfl, hattempt, hused, hempty⟩
  | succ k ih =>
    rw [List.replicate_succ, List.cons_append] at h
    obtain ⟨houtcome, hused, _, hattempt⟩ := attempt_silent hc req slave n h
    have hcfg := (attempt_frame req slave n s).cfg
    rw [(attempts_of_timeout houtcome).2 k]
    generalize (attempt req slave n s).1 = a at *
    have hmst := idlePass_mst_frame a.cfg.backoff (takeError a)
    have hcount : (returnFromError (idlePass a.cfg.backoff (takeError a))).mst.attempt = s.mst.attempt + 1 := by
      rw [returnFromError_mst, hmst, takeError_mst, hattempt]
    have hnext := ih (s := returnFromError (idlePass a.cfg.backoff (takeError a)))
      (by rw [returnFromError_cfg, idlePass_cfg, takeError_cfg, hcfg]; exact hc)
      (by rw [returnFromError_env, idlePass_env, takeError_env]; exact hused)
    rwa [hcount, Nat.add_right_comm] at hnext

/-- Settles O44: every attempt times out, and the last one leaves `rxlen` at 0. -/
theorem silentSlaveIsUnreachable : Obligations.SilentSlaveIsUnreachable := by
  intro s slave a n rest hwf hvalid hanswers
  rw [Nat.add_comm] at hanswers
  obtain ⟨hresult, hcount, hused, hempty⟩ := attempts_silent (requestBytes slave a n) slave n s.cfg.retryCount
    (s := pollStart slave a n s) ((cfgWf_iff s.cfg).1 hwf) hanswers
  rw [pollStart_attempt, Nat.zero_add] at hcount
  refine ⟨_, exec_mstPoll hvalid, ?_⟩
  rw [poll_eq_attempts]
  exact ⟨congrArg OpResult.poll hresult, hcount, hused, hempty⟩

end Sys2Proof.Proofs
end

section
/-! SUPPORT. Half duplex: who releases the direction (42_transport_uart.md R197, R212; 70_reset_and_hazards.md R405). -/

namespace Sys2Proof.Proofs

open Sys2Proof.Machine Sys2Proof.Laws

/-- A sound state does not listen while it drives. -/
theorem listens_not_drives {s : State} (h : Inv s) (he : s.urx.enable = true) : s.dirState = false := by
  obtain ⟨hlisten, hdir, _⟩ := h.half
  exact hdir (hlisten.1 he)

/-- Of the ticks only the one after the flush releases the direction (R197). -/
theorem tickWith_releases {rxd : Bool} {s : State} (hd : s.dirState = true) (hrel : (tickWith rxd s).dirState = false) :
    s.utx.busy = false := by
  have hkept (h : (tickWith rxd s).dirState = (countedTick rxd s).dirState) : s.utx.busy = false := by
    rw [h, countedTick_dirState, hd] at hrel
    cases hrel
  rw [tickWith_eq, transportTick] at hrel hkept
  cases hp : s.tr.phase <;> rw [hp] at hrel hkept
  case flush =>
    cases hb : s.utx.busy with
    | false => rfl
    | true => exact hb ▸ hkept (by dsimp only; rw [if_pos hb])
  case rx =>
    refine hkept ?_
    dsimp only [receptionTick]
    split
    · rfl
    · split <;> rfl
  all_goals exact hkept rfl

theorem afterAttempt_dirState (o : AttemptResult) (s : State) : (afterAttempt o s).dirState = s.dirState := by
  unfold afterAttempt
  split
  · rfl
  · rfl
  · split <;> rfl

/-- The direction is still asserted in whatever state follows. -/
abbrev StaysAsserted (o : Host.Outcome State Fault Refusal) : Prop := NextSat (fun t => t.dirState = true) o

section
variable {s : State} (hd : s.dirState = true)
include hd

theorem beginAttempt_asserted : (beginAttempt s).dirState = true := by
  rcases beginAttempt_cases s with ⟨_, e⟩ | ⟨_, e⟩ <;> rw [e] <;> exact hd

theorem takeResult_asserted : StaysAsserted (takeResult s) := by
  unfold takeResult
  split
  · exact nextSat_fault _
  · split
    · exact nextSat_next hd
    · exact nextSat_next ((afterAttempt_dirState _ s).trans hd)

theorem decodeMove_asserted : StaysAsserted (decodeMove s) := by
  unfold decodeMove
  split
  · exact nextSat_fault _
  · rename_i bytes _
    obtain ⟨_, _, _, e⟩ := decodeInto_eq bytes s.cfg.slaveId (countOperand s.cfg) s
    dsimp only
    refine nextSat_next ((afterAttempt_dirState _ _).trans ?_)
    rw [e]
    exact hd

theorem convertMove_asserted : StaysAsserted (convertMove s) := by
  unfold convertMove convertPublish
  split
  · exact nextSat_fault _
  · split
    · exact nextSat_next hd
    · exact nextSat_fault _

theorem handByte_asserted (d : Byte) : (handByte d s).dirState = true := by
  unfold handByte
  dsimp only
  split
  · exact (loadChar_dirState d s).trans hd
  · exact (loadChar_dirState d s).trans hd

theorem transactMove_asserted {o : Host.Outcome State Fault Refusal} (h : transactMove s = some o) : StaysAsserted o := by
  rcases transactMove_cases s h with ⟨_, rfl⟩ | ⟨_, _, rfl⟩ | ⟨_, _, _, rfl⟩ | ⟨d, _, _, _, _, rfl⟩ | ⟨_, _, _, _, rfl⟩ |
    ⟨_, _, rfl⟩ | ⟨_, _, rfl⟩ | ⟨_, _, rfl⟩
  · exact nextSat_next hd
  · exact nextSat_next rfl
  · exact nextSat_next hd
  · exact nextSat_next (handByte_asserted hd d)
  · exact nextSat_fault _
  · exact nextSat_next hd
  · exact nextSat_next hd
  · exact takeResult_asserted hd

/-- No move of the poll agent releases the direction (R197). -/
theorem pollMove_asserted {o : Host.Outcome State Fault Refusal} (h : pollMove s = some o) : StaysAsserted o := by
  rcases pollMove_cases s h with ⟨_, _, rfl⟩ | ⟨_, rfl⟩ | ⟨_, ht⟩ | ⟨_, rfl⟩ | ⟨_, _, rfl⟩ | ⟨_, rfl⟩ | ⟨_, rfl⟩
  · exact nextSat_next hd
  · exact nextSat_next (beginAttempt_asserted (s := (encodeRequest s.cfg.slaveId s.cfg.startReg (countOperand s.cfg) s).setMst _) hd)
  · exact transactMove_asserted hd ht
  · exact decodeMove_asserted hd
  · exact nextSat_next (beginAttempt_asserted (s := returnFromError s) hd)
  · exact convertMove_asserted hd
  · exact nextSat_next hd

theorem uiMove_asserted : (uiMove s).dirState = true :=
  (congrArg State.dirState (uiTick_pollSide (rawOperand s) s)).trans hd

/-- The block by itself releases the direction in a tick on which nothing is being sent, and in no other step. -/
theorem autoStep_releases {t : State} (h : autoStep s = .next t) (ht : t.dirState = false) : s.utx.busy = false := by
  have hno {o : Host.Outcome State Fault Refusal} (ho : StaysAsserted o) (he : o = .next t) : s.utx.busy = false :=
    absurd (ht.symm.trans (ho t he)) nofun
  rcases autoStep_cases s with ⟨_, _, e⟩ | ⟨_, _, e⟩ | ⟨o, ho, _, e⟩ | ⟨_, _, _, _, e⟩ | ⟨_, _, _, _, e⟩ <;> rw [e] at h
  · cases h
    exact tickWith_releases hd ht
  · exact hno (nextSat_next (uiMove_asserted hd)) h
  · exact hno (pollMove_asserted hd ho) h
  · exact hno (nextSat_next (uiMove_asserted (s := dropDraw s) hd)) h
  · cases ho : pollMove (dropDraw s) with
    | none =>
      rw [ho] at h
      exact hno (nextSat_next (uiMove_asserted (s := dropDraw s) hd)) h
    | some o =>
      rw [ho] at h
      exact hno (pollMove_asserted (s := dropDraw s) hd ho) h

end

/-- Without a word and without `rst` a step is the block's own. -/
theorem autoStep_of_step {s t : State} (hp : s.env.pend = []) (hr : rstPort s = false) (h : step s = .next t) :
    autoStep s = .next t := by
  have hword : fetchWord s = none := by rw [fetchWord, hp]; rfl
  rw [step, hr, hword] at h
  split at h
  · exact h
  · cases h

/-- Settles O60: the invariant says it of sound states, every step keeps the invariant, and only a tick releases the direction. -/
theorem halfDuplexIsKept : Obligations.HalfDuplexIsKept :=
  ⟨fun _ h => listens_not_drives h,
    fun _ t h hstep => listens_not_drives (step_inv h t hstep),
    fun _ _ _ hp hr hstep hd ht => autoStep_releases hd (autoStep_of_step hp hr hstep) ht⟩

end Sys2Proof.Proofs
end

section
/-! SUPPORT. TR.GAP: how long it waits (42_transport_uart.md R191, R193, R209, R410). -/

namespace Sys2Proof.Proofs

open Sys2Proof.Machine Sys2Proof.Laws

/-- The idle counter after one more tick (R209). -/
def idleNext (t c : Nat) (l : Bool) : Nat := if l then min t (c + 1) else 0

theorem idleAfter_cons (t c : Nat) (l : Bool) (ls : List Bool) (n : Nat) :
    idleAfter t c (l :: ls) (n + 1) = idleAfter t (idleNext t c l) ls n := by
  rw [idleAfter, idleAfter, List.length_cons, Nat.add_sub_add_right]
  rfl

theorem idleAfter_zero (t c : Nat) (line : List Bool) : idleAfter t c line 0 = min t c := by
  rw [idleAfter, List.take_zero, Nat.zero_sub]
  rfl

/-- Before the wait ends the line has not been idle for long enough (R193). -/
theorem idleAfter_lt (t : Nat) {c : Nat} (line : List Bool) {k : Nat} (hk : k < gapTicks t c line) : idleAfter t c line k < t := by
  induction line generalizing c k with
  | nil =>
    rw [gapTicks] at hk
    have hlevels : idleRun t c (([] : List Bool).take k) = c := by rw [List.take_nil]; rfl
    rw [idleAfter, hlevels, List.length_nil]
    omega
  | cons l ls ih =>
    rw [gapTicks] at hk
    split at hk
    · omega
    · rename_i hlt
      cases k with
      | zero =>
        rw [idleAfter_zero]
        omega
      | succ k =>
        rw [idleAfter_cons]
        exact ih (by rw [idleNext]; omega)

theorem drain_idleCnt_le {s : State} (h : s.tr.idleCnt ≤ t35Ticks s.cfg) : (drain s).tr.idleCnt ≤ t35Ticks s.cfg := by
  unfold drain
  split
  · unfold busyPass
    dsimp only
    split
    · exact h
    · exact Nat.zero_le _
  · exact h

theorem idlePass_idleCnt {n : Nat} {s : State} (h : s.tr.idleCnt ≤ t35Ticks s.cfg) :
    (idlePass n s).tr.idleCnt = idleAfter (t35Ticks s.cfg) s.tr.idleCnt s.env.line n := by
  unfold idlePass
  dsimp only
  split
  · rename_i hn
    rw [hn, idleAfter_zero]
    exact (Nat.min_eq_right h).symm
  · rfl

/-- Settles O30: the wait takes `gapTicks`, before whose end the line is not yet idle for long enough. -/
theorem gapWaitsForSilence : Obligations.GapWaitsForSilence := by
  intro s w hwf hidle hw
  have hcfg : w.cfg = s.cfg := by rw [hw, leaveDone_cfg, (drain_frame s).cfg]
  have hcnt : w.tr.idleCnt ≤ t35Ticks s.cfg := by
    rw [hw, leaveDone]
    split
    · rw [idlePass_idleCnt (by rw [(drain_frame s).cfg]; exact drain_idleCnt_le hidle), (drain_frame s).cfg]
      exact idleAfter_le _ _ _ _
    · exact drain_idleCnt_le hidle
  have hwait : waitGap s = idlePass (gapTicks (t35Ticks s.cfg) w.tr.idleCnt w.env.line) (w.enterPhase .gap) := by
    rw [waitGap, ← hw]
    dsimp only [enterPhase_cfg, enterPhase_idleCnt, enterPhase_env]
    rw [hcfg]
  obtain ⟨hphase, hurx, hutx, hdir⟩ := waitGap_spec s
  have hutx' : w.utx = (drain s).utx := by rw [hw, leaveDone_utx]
  have hreached : (waitGap s).tr.idleCnt = t35Ticks s.cfg := by
    rw [hwait, idlePass_idleCnt (by rw [enterPhase_cfg, hcfg]; exact hcnt), enterPhase_cfg, hcfg]
    exact idleAfter_gapTicks _ _ hcnt _
  have hnow : (waitGap s).now = w.now + BitVec.ofNat 64 (gapTicks (t35Ticks s.cfg) w.tr.idleCnt w.env.line) := by
    rw [hwait, idlePass_now, enterPhase_now]
  have f : SendFrame s ((waitGap s).setRes .none) := sendFrame_trans (waitGap_frame s) (setRes_frame _ _)
  refine ⟨_, _, rfl, hphase, hreached, hurx, hutx.trans hutx'.symm, (congrArg Utx.busy hutx).trans (drain_busy s),
    hdir.trans (drain_dirState s), rfl, hnow, fun hp => ?_, fun hp hb => ?_, fun k => idleAfter_lt _ _, fun hline => ?_, f,
    read_of_sendFrame f⟩
  · rw [hw, leaveDone_rest (by rw [drain_phase hp]; exact hp)]
  · rw [hw, drain_idle hb, leaveDone_done hp, idlePass_now, idlePass_env, List.drop_one]
    exact ⟨rfl, rfl⟩
  · rw [hline, gapTicks]

end Sys2Proof.Proofs
end

section
/-! SUPPORT. TR.TRANSACT is its six steps in order (42_transport_uart.md R190; 30_encoding.md R107): each step pays no heed to
the result of the one before. -/

namespace Sys2Proof.Proofs

open Sys2Proof.Machine Sys2Proof.Laws

/-! ### The steps and the result of the operation before -/

section
variable (s : State) (r : OpResult)

theorem passTicks_setRes (n : Nat) : passTicks n (s.setRes r) = (passTicks n s).setRes r := by
  unfold passTicks
  split <;> rfl

theorem idlePass_setRes (n : Nat) : idlePass n (s.setRes r) = (idlePass n s).setRes r := by
  unfold idlePass
  rw [passTicks_setRes]
  split <;> rfl

theorem busyPass_setRes (n : Nat) : busyPass n (s.setRes r) = (busyPass n s).setRes r := by
  unfold busyPass
  rw [passTicks_setRes]
  split <;> rfl

theorem drain_setRes : drain (s.setRes r) = (drain s).setRes r := by
  cases hb : s.utx.busy with
  | false => rw [drain_idle hb, drain_idle (s := s.setRes r) hb]
  | true =>
    rw [drain, drain, if_pos hb, if_pos (show (s.setRes r).utx.busy = true from hb), setRes_utx, setRes_cfg]
    dsimp only
    rw [busyPass_setRes]
    rfl

theorem sendCounted_setRes (d : Byte) : sendCounted (s.setRes r) d = (sendCounted s d).setRes r := by
  have hload : loadChar d ((drain s).setRes r) = (loadChar d (drain s)).setRes r := rfl
  rw [sendCounted, sendCounted, sendChar, sendChar, drain_setRes, hload, drain_setRes]
  rfl

theorem writeRequest_setRes (req : List Byte) : writeRequest req (s.setRes r) = (writeRequest req s).setRes r := by
  rw [writeRequest, writeRequest, setRes_tr]
  generalize req.drop s.tr.txidx = bytes
  induction bytes generalizing s with
  | nil => rfl
  | cons d ds ih => rw [List.foldl_cons, List.foldl_cons, sendCounted_setRes, ih]

theorem flushTx_setRes : flushTx (s.setRes r) = (flushTx s).setRes r := drain_setRes (s.enterPhase .flush) r

theorem receiveEnable_setRes : receiveEnable (s.setRes r) = (receiveEnable s).setRes r := rfl

theorem enableReceive_setRes : enableReceive (s.setRes r) = (enableReceive s).setRes r := by
  have hrelease : releaseDir ((idlePass 1 (drain s)).setRes r) = (releaseDir (idlePass 1 (drain s))).setRes r := rfl
  rw [enableReceive_eq, enableReceive_eq, turned, turned, drain_setRes, idlePass_setRes, hrelease, idlePass_setRes,
    setRes_cfg, receiveEnable_setRes]

theorem reception_setRes (m : Nat) : reception m (s.setRes r) = reception m s := rfl

theorem readResponse_setRes (m : Nat) : readResponse m (s.setRes r) = (readResponse m s).setRes r := by
  rw [readResponse, readResponse, reception_setRes, passTicks_setRes]
  rfl

end

/-! ### The sequence -/

theorem runAll_next {i : Instr} {s t : State} (h : exec i s = .next t) (is : List Instr) :
    runAll (i :: is) s = runAll is t := by
  rw [runAll, h]

/-- TR.GAP takes the maximum length of the transaction it begins (R204; log 22). -/
theorem waitGap_maxLen (s : State) : (waitGap s).tr.maxLen =
    if s.tr.phase = .idle ∨ s.tr.phase = .done then 5 + 2 * s.cfg.count else s.tr.maxLen := by
  rw [← maxLenIn_active s (show TrPhase.gap.resting = false from rfl), waitGap,
    (idlePass_keepsMaxLen _ _).maxLen]
  exact maxLenIn_of_keeps (keepsMaxLen_trans (drain_keepsMaxLen s) (leaveDone_keepsMaxLen _)) .gap

/-- With the request of `txbuf` and the maximum length of the transaction it begins, TR.TRANSACT is its six steps. -/
theorem runAll_sixSteps {s : State} {req : List Byte} {m : Nat} (hreq : txOperand s = some req)
    (hm : m = if s.tr.phase = .idle ∨ s.tr.phase = .done then 5 + 2 * s.cfg.count else s.tr.maxLen) :
    runAll [.trGap, .trTxen, .trWrite, .trFlush, .trRxen, .trRead] s = exec (.trTransact req m) s := by
  have hmax : (waitGap s).setTr { (waitGap s).tr with maxLen := m } = waitGap s := by
    rw [hm, ← waitGap_maxLen]
    rfl
  have hgap : exec .trGap s = .next ((waitGap s).setRes .none) := rfl
  have htxen : exec .trTxen ((waitGap s).setRes .none) = .next ((assertDir (waitGap s)).setRes .none) := rfl
  have htx : txOperand ((assertDir (waitGap s)).setRes .none) = some req := by
    have := (sendFrame_trans (waitGap_frame s) (assertDir_frame _)).tx
    rw [txOperand, setRes_tx, this, ← txOperand, hreq]
  have hwrite : exec .trWrite ((assertDir (waitGap s)).setRes .none) =
      .next ((writeRequest req (assertDir (waitGap s))).setRes .none) := by
    rw [exec_trWrite htx, writeRequest_setRes]
    rfl
  have hflush : exec .trFlush ((writeRequest req (assertDir (waitGap s))).setRes .none) =
      .next ((requested req m s).setRes .none) := by
    rw [requested, hmax, exec, execTrFlush, flushTx_setRes]
    rfl
  have hrxen : exec .trRxen ((requested req m s).setRes .none) =
      .next ((enableReceive (requested req m s)).setRes .none) := by
    rw [exec, execTrRxen, enableReceive_setRes]
    rfl
  have hread : exec .trRead ((enableReceive (requested req m s)).setRes .none) = exec (.trTransact req m) s := by
    obtain ⟨hphase, _, _, _, _, _, _, _, _, _, hutx⟩ := receiveEnable_spec (turned (requested req m s))
    have hlen := enableReceive_requested_maxLen req m s
    have hfree : (enableReceive (requested req m s)).utx.busy = false := by
      rw [enableReceive_eq, hutx]
      exact turned_busy _
    rw [← enableReceive_eq] at hphase
    rw [exec_trRead (by rw [setRes_tr, hphase]; exact nofun), drain_setRes, drain_idle hfree, setRes_tr, hlen, readResponse_setRes,
      reception_setRes, exec, execTrTransact, transact_eq]
    rfl
  rw [runAll_next hgap, runAll_next htxen, runAll_next hwrite, runAll_next hflush, runAll_next hrxen, runAll, hread]
  rfl

end Sys2Proof.Proofs
end

section
/-! SUPPORT. When each phase of the block's own transaction ends, and where it goes (42_transport_uart.md R191 to R199; log 11,
log 35). -/

namespace Sys2Proof.Proofs

open Sys2Proof.Machine Sys2Proof.Laws

section
variable {s : State}

/-! ### The moves -/

theorem pollMove_transact (h : s.mst.phase = .transact) : pollMove s = transactMove s := by rw [pollMove, h]

theorem transactMove_idle (h : s.tr.phase = .idle) : transactMove s = some (.next (startTransaction s)) := by
  rw [transactMove, h]

theorem transactMove_gap (h : s.tr.phase = .gap) :
    transactMove s = if t35Ticks s.cfg ≤ s.tr.idleCnt then some (.next (assertDir s)) else none := by rw [transactMove, h]

/-- A busy transmitter is waited for (R195). -/
theorem transactMove_tx_busy (h : s.tr.phase = .tx) (hb : s.utx.busy = true) : transactMove s = none := by
  rw [transactMove, h]
  exact if_pos hb

theorem transactMove_tx_byte (h : s.tr.phase = .tx) (hb : s.utx.busy = false) (hidx : s.tr.txidx < 8) {d : Byte}
    (hd : txByte s = some d) : transactMove s = some (.next (handByte d s)) := by
  rw [transactMove, h]
  dsimp only
  rw [hb, if_neg Bool.false_ne_true, if_neg (Nat.not_le.2 hidx), hd]

theorem transactMove_tx_all (h : s.tr.phase = .tx) (hb : s.utx.busy = false) (hidx : 8 ≤ s.tr.txidx) :
    transactMove s = some (.next (s.enterPhase .flush)) := by
  rw [transactMove, h]
  dsimp only
  rw [hb, if_neg Bool.false_ne_true, if_pos hidx]

theorem transactMove_flush (h : s.tr.phase = .flush) : transactMove s = none := by rw [transactMove, h]

theorem transactMove_turn (h : s.tr.phase = .turn) :
    transactMove s = if s.cfg.turnaround ≤ s.tr.turnCnt then some (.next (receiveEnable s)) else none := by
  rw [transactMove, h]

theorem transactMove_rx (h : s.tr.phase = .rx) :
    transactMove s = if receptionOver s = true then some (.next (s.enterPhase .done)) else none := by rw [transactMove, h]

/-- The byte is loaded and counted; with the eighth the phase is FLUSH (R195; log 35). -/
theorem handByte_spec (d : Byte) (h : s.tr.phase = .tx) :
    (handByte d s).utx = (loadChar d s).utx ∧ (handByte d s).uartTxd = (loadChar d s).uartTxd ∧
      (handByte d s).tr.txidx = s.tr.txidx + 1 ∧ (handByte d s).tr.phase = (if s.tr.txidx = 7 then .flush else .tx) ∧
      (handByte d s).dirState = s.dirState := by
  unfold handByte
  dsimp only
  rw [loadChar_tr]
  by_cases hlast : s.tr.txidx = 7
  · rw [if_pos (by omega), if_pos hlast]
    exact ⟨rfl, rfl, rfl, rfl, loadChar_dirState d s⟩
  · rw [if_neg (by omega), if_neg hlast]
    exact ⟨rfl, rfl, rfl, h, loadChar_dirState d s⟩

/-! ### The ticks -/

theorem tick_done (h : s.tr.phase = .done) : (tick s).tr.phase = .idle := by
  rw [tick, setUi_tr, tickWith_eq, transportTick, h]
  rfl

/-- While the last character goes out the phase is still FLUSH (R196). -/
theorem tick_flush_busy (h : s.tr.phase = .flush) (hb : s.utx.busy = true) :
    (tick s).tr.phase = .flush ∧ (tick s).dirState = s.dirState := by
  obtain ⟨i, _, htr⟩ := countedTick_tr (rxdPort s) s
  have hcounted : tickWith (rxdPort s) s = countedTick (rxdPort s) s := by
    rw [tickWith_eq, transportTick, h]
    exact if_pos hb
  rw [tick, setUi_tr, setUi_dirState, hcounted, countedTick_dirState, htr]
  exact ⟨h, rfl⟩

/-- The tick after it releases the direction (R197). -/
theorem tick_flush_free (h : s.tr.phase = .flush) (hb : s.utx.busy = false) :
    (tick s).tr.phase = .turn ∧ (tick s).dirState = false ∧ (tick s).tr.turnCnt = 0 := by
  have hreleased : tickWith (rxdPort s) s = releaseDir (countedTick (rxdPort s) s) := by
    rw [tickWith_eq, transportTick, h]
    exact if_neg (by rw [hb]; exact Bool.false_ne_true)
  rw [tick, hreleased]
  exact ⟨rfl, rfl, rfl⟩

/-- The turnaround counts every tick (R198). -/
theorem tick_turn (h : s.tr.phase = .turn) (hlt : s.tr.turnCnt < s.cfg.turnaround) :
    (tick s).tr.turnCnt = s.tr.turnCnt + 1 := by
  obtain ⟨i, _, htr⟩ := countedTick_tr (rxdPort s) s
  have hcount : (tickWith (rxdPort s) s).tr.turnCnt = min s.cfg.turnaround (s.tr.turnCnt + 1) := by
    rw [tickWith_eq, transportTick, h]
    dsimp only
    rw [setTr_tr, countedTick_cfg, htr]
  rw [tick, setUi_tr, hcount, Nat.min_eq_right hlt]

end

/-- Settles O38: the six steps with the results between them dropped, and phase by phase the move or the tick that ends it. -/
theorem transactIsItsSixSteps : Obligations.TransactIsItsSixSteps := by
  refine ⟨fun s req m hreq hm => ⟨_, runAll_sixSteps hreq hm, rfl⟩, fun s hmst => ?_⟩
  rw [pollMove_transact hmst]
  refine ⟨fun h => ?idle, fun h => ?gap, fun h => ?tx, fun h => ?flush, fun h => ?turn, fun h => ?rx, tick_done⟩
  case idle =>
    exact ⟨_, transactMove_idle h, rfl, maxLenIn_begins (by rw [h]; rfl) rfl, rfl⟩
  case gap =>
    rw [transactMove_gap h]
    exact ⟨fun hlt => if_neg (Nat.not_le.2 hlt), fun hle => ⟨_, if_pos hle, rfl, rfl, rfl, rfl⟩⟩
  case tx =>
    exact ⟨transactMove_tx_busy h, fun d hb hidx hd => ⟨_, transactMove_tx_byte h hb hidx hd, handByte_spec d h⟩,
      fun hb hidx => ⟨_, transactMove_tx_all h hb hidx, rfl, rfl⟩⟩
  case flush =>
    exact ⟨transactMove_flush h, tick_flush_busy h, tick_flush_free h⟩
  case turn =>
    obtain ⟨hphase, hurx, _, hrxlen, _⟩ := receiveEnable_spec s
    rw [transactMove_turn h]
    exact ⟨fun hlt => ⟨if_neg (Nat.not_le.2 hlt), tick_turn h hlt⟩, fun hle => ⟨_, if_pos hle, hphase, hurx, hrxlen,
      (receiveEnable_log_answers s).2, fun ev rest hanswers => by rw [receiveEnable_env hanswers]⟩⟩
  case rx =>
    rw [transactMove_rx h]
    exact ⟨fun hon => if_neg (by rw [hon]; exact Bool.false_ne_true), fun hover => ⟨_, if_pos hover, rfl, rfl, rfl, rfl, rfl⟩⟩

end Sys2Proof.Proofs
end

section
/-! SUPPORT. Which characters a reception accepts, and how and when it ends (42_transport_uart.md R199, R203, R207; log 12). -/

namespace Sys2Proof.Proofs

open Sys2Proof.Machine Sys2Proof.Laws

/-- Ticks until the first `k` characters of an answer have ended (R205). -/
def ticksOf (charTicks : Nat) (ev : Answer) (k : Nat) : Nat := ((ev.take k).map fun e => e.1 + charTicks).sum

theorem ticksOf_succ (charTicks gap : Nat) (item : LinkItem) (ev : Answer) (k : Nat) :
    ticksOf charTicks ((gap, item) :: ev) (k + 1) = gap + charTicks + ticksOf charTicks ev k := rfl

/-- The bytes of one item. -/
def itemBytes : LinkItem → List Byte
  | .byte d => [d]
  | .error => []

theorem answerBytes_cons (gap : Nat) (item : LinkItem) (ev : Answer) :
    answerBytes ((gap, item) :: ev) = itemBytes item ++ answerBytes ev := by
  cases item <;> rfl

/-- One character of the loop of R199: too late after a silence, too late for the timeout, the last that fits, or followed by
the rest. -/
theorem receiveLoop_cons (b : RxBounds) (t : Nat) (seen : Bool) (acc : List Byte) (err : Bool) (gap : Nat) (item : LinkItem)
    (ev : Answer) : receiveLoop b t seen acc err ((gap, item) :: ev) =
      if seen = true ∧ b.t35 ≤ gap then silenceEnd b t acc err
      else if b.timeout < t + gap + b.charTicks then ⟨acc, err, .timeout, b.timeout⟩
      else if (acc ++ itemBytes item).length = b.m then
        ⟨acc ++ itemBytes item, err || item = .error, .maxlen, t + gap + b.charTicks⟩
      else receiveLoop b (t + gap + b.charTicks) true (acc ++ itemBytes item) (err || item = .error) ev := by
  cases item <;> simp [receiveLoop, itemBytes]

/-- What the loop of R199 makes of an answer from a state `t`, `seen`, `acc`, `err` on: it accepts the first `k` characters. -/
structure Accepts (b : RxBounds) (t : Nat) (seen : Bool) (acc : List Byte) (err : Bool) (ev : Answer) (k : Nat)
    (r : Reception) : Prop where
  le : k ≤ ev.length
  bytes : r.bytes = acc ++ answerBytes (ev.take k)
  ioErr : r.ioErr = (err || (ev.take k).any fun e => e.2 = .error)
  inTime : ∀ j, j < k → t + ticksOf b.charTicks ev (j + 1) ≤ b.timeout
  noSilence : ∀ j e, (1 ≤ j ∨ seen = true) → j < k → ev[j]? = some e → e.1 < b.t35
  room : ∀ j, j < k → (acc ++ answerBytes (ev.take j)).length < b.m
  fits : (acc ++ answerBytes (ev.take k)).length ≤ b.m
  stops : k < ev.length → (acc ++ answerBytes (ev.take k)).length = b.m ∨ b.timeout < t + ticksOf b.charTicks ev (k + 1) ∨
    ((1 ≤ k ∨ seen = true) ∧ ∃ e, ev[k]? = some e ∧ b.t35 ≤ e.1)
  ending : (r.reason, r.endTick) =
    (if (acc ++ answerBytes (ev.take k)).length = b.m then (.maxlen, t + ticksOf b.charTicks ev k)
      else if (1 ≤ k ∨ seen = true) ∧ (∀ e, ev[k]? = some e → b.t35 ≤ e.1) ∧ t + ticksOf b.charTicks ev k + b.t35 ≤ b.timeout then
        (.silence, t + ticksOf b.charTicks ev k + b.t35)
      else (.timeout, b.timeout))

section
variable {b : RxBounds} {t : Nat} {seen : Bool} {acc : List Byte} {err : Bool}

/-- No character is accepted: a silence comes first, or the timeout. -/
theorem accepts_none (hm : acc.length < b.m) {ev : Answer} {r : Reception} (hbytes : r.bytes = acc) (herr : r.ioErr = err)
    (hstops : 0 < ev.length → b.timeout < t + ticksOf b.charTicks ev 1 ∨ (seen = true ∧ ∃ e, ev[0]? = some e ∧ b.t35 ≤ e.1))
    (hend : (r.reason, r.endTick) =
      if seen = true ∧ (∀ e, ev[0]? = some e → b.t35 ≤ e.1) ∧ t + b.t35 ≤ b.timeout then (.silence, t + b.t35)
      else (.timeout, b.timeout)) :
    Accepts b t seen acc err ev 0 r := by
  have hnothing : acc ++ answerBytes (ev.take 0) = acc := List.append_nil acc
  refine ⟨Nat.zero_le _, ?_, ?_, nofun, nofun, nofun, ?_, ?_, ?_⟩
  · rw [hnothing, hbytes]
  · rw [herr]
    exact (Bool.or_false err).symm
  · rw [hnothing]
    exact hm.le
  · intro hlen
    rcases hstops hlen with h | ⟨h, he⟩
    · exact .inr (.inl h)
    · exact .inr (.inr ⟨.inr h, he⟩)
  · have hticks : t + ticksOf b.charTicks ev 0 = t := rfl
    rw [hnothing, if_neg hm.ne, hend, hticks]
    exact if_congr (and_congr_left' (or_iff_right (Nat.not_succ_le_zero 0)).symm) rfl rfl

theorem silenceEnd_eq (b : RxBounds) (t : Nat) (acc : List Byte) (err : Bool) : (silenceEnd b t acc err).bytes = acc ∧
    (silenceEnd b t acc err).ioErr = err ∧ ((silenceEnd b t acc err).reason, (silenceEnd b t acc err).endTick) =
      if t + b.t35 ≤ b.timeout then (.silence, t + b.t35) else (.timeout, b.timeout) := by
  unfold silenceEnd
  split <;> exact ⟨rfl, rfl, rfl⟩

/-- The first character is accepted, and then the first `k` of the others. -/
theorem accepts_cons {gap : Nat} {item : LinkItem} {ev : Answer} {k : Nat} {r : Reception}
    (hsilence : ¬ (seen = true ∧ b.t35 ≤ gap)) (htime : ¬ b.timeout < t + gap + b.charTicks) (hm : acc.length < b.m)
    (h : Accepts b (t + gap + b.charTicks) true (acc ++ itemBytes item) (err || item = .error) ev k r) :
    Accepts b t seen acc err ((gap, item) :: ev) (k + 1) r := by
  have hbytes (j : Nat) : acc ++ answerBytes (((gap, item) :: ev).take (j + 1)) =
      (acc ++ itemBytes item) ++ answerBytes (ev.take j) := by
    rw [List.take_succ_cons, answerBytes_cons, List.append_assoc]
  have hticks (j : Nat) : t + ticksOf b.charTicks ((gap, item) :: ev) (j + 1) =
      t + gap + b.charTicks + ticksOf b.charTicks ev j := by
    rw [ticksOf_succ]
    omega
  refine ⟨Nat.succ_le_succ h.le, ?_, ?_, fun j hj => ?_, fun j e hj hk he => ?_, fun j hj => ?_, ?_, fun hlen => ?_, ?_⟩
  · rw [hbytes, h.bytes]
  · rw [h.ioErr, List.take_succ_cons, List.any_cons, Bool.or_assoc]
  · rw [hticks]
    cases j with
    | zero => exact Nat.not_lt.1 htime
    | succ j => exact h.inTime j (by omega)
  · cases j with
    | zero =>
      cases he
      exact Nat.not_le.1 fun hle => hsilence ⟨hj.resolve_left nofun, hle⟩
    | succ j => exact h.noSilence j e (.inr rfl) (by omega) he
  · cases j with
    | zero => exact (congrArg List.length (List.append_nil acc)).trans_lt hm
    | succ j =>
      rw [hbytes]
      exact h.room j (by omega)
  · rw [hbytes]
    exact h.fits
  · rw [hbytes, hticks]
    rcases h.stops (by simpa using hlen) with hfull | hlate | ⟨_, he⟩
    · exact .inl hfull
    · exact .inr (.inl hlate)
    · exact .inr (.inr ⟨.inl (Nat.succ_pos k), he⟩)
  · rw [h.ending, hbytes, hticks, List.getElem?_cons_succ]
    simp only [or_true, Nat.le_add_left, true_or]

/-- The loop of R199 accepts the first characters of an answer, up to one of its three ends. -/
theorem receiveLoop_accepts (hm : acc.length < b.m) (ev : Answer) :
    ∃ k, Accepts b t seen acc err ev k (receiveLoop b t seen acc err ev) := by
  induction ev generalizing t seen acc err with
  | nil =>
    obtain ⟨hbytes, herr, hend⟩ := silenceEnd_eq b t acc err
    rw [receiveLoop]
    cases seen with
    | true => exact ⟨0, accepts_none hm hbytes herr nofun (by rw [if_pos rfl, hend]; simp)⟩
    | false => exact ⟨0, accepts_none hm rfl rfl nofun (by simp)⟩
  | cons e ev ih =>
    obtain ⟨gap, item⟩ := e
    rw [receiveLoop_cons]
    split
    · rename_i h
      obtain ⟨hseen, hgap⟩ := h
      obtain ⟨hbytes, herr, hend⟩ := silenceEnd_eq b t acc err
      refine ⟨0, accepts_none hm hbytes herr (fun _ => .inr ⟨hseen, _, rfl, hgap⟩) ?_⟩
      rw [hend]
      simp [hseen, hgap]
    · rename_i hsilence
      split
      · rename_i htime
        refine ⟨0, accepts_none hm rfl rfl (fun _ => .inl ?_) ?_⟩
        · rw [ticksOf_succ]
          omega
        · rw [if_neg]
          rintro ⟨hseen, hgap, _⟩
          exact hsilence ⟨hseen, hgap _ rfl⟩
      · rename_i htime
        split
        · rename_i hfull
          have hrest : Accepts b (t + gap + b.charTicks) true (acc ++ itemBytes item) (err || item = .error) ev 0
              ⟨acc ++ itemBytes item, err || item = .error, .maxlen, t + gap + b.charTicks⟩ := by
            have hnothing : acc ++ itemBytes item ++ answerBytes (ev.take 0) = acc ++ itemBytes item := List.append_nil _
            exact ⟨Nat.zero_le _, hnothing.symm, (Bool.or_false _).symm, nofun, nofun, nofun, (by rw [hnothing]; exact hfull.le),
              fun _ => .inl (by rw [hnothing]; exact hfull), (by rw [hnothing, if_pos hfull]; rfl)⟩
          exact ⟨1, accepts_cons hsilence htime hm hrest⟩
        · rename_i hroom
          have hlen : (acc ++ itemBytes item).length < b.m := by
            rw [List.length_append] at hroom ⊢
            have : (itemBytes item).length ≤ 1 := by cases item <;> simp [itemBytes]
            omega
          obtain ⟨k, hk⟩ := ih (t := t + gap + b.charTicks) (seen := true) (err := err || item = .error) hlen
          exact ⟨k + 1, accepts_cons hsilence htime hm hk⟩

end

/-- Settles O35: the characters the loop takes and its end, from receive-enable on. -/
theorem acceptedCharactersAreAPrefix : Obligations.AcceptedCharactersAreAPrefix := by
  intro c m ev _ hm
  obtain ⟨k, h⟩ := receiveLoop_accepts (b := rxBounds c m) (t := 0) (seen := false) (acc := []) (err := false) hm ev
  obtain ⟨hbound, _, _⟩ := receiveLoop_spec (rxBounds c m) 0 false [] false ev (Nat.zero_le _) hm
  have hticks (j : Nat) : 0 + ticksOf (rxBounds c m).charTicks ev (j + 1) = charEnd (charTicks c) ev j := Nat.zero_add _
  refine ⟨k, _, rfl, h.le, h.bytes, ?_, hbound, fun j hj => hticks j ▸ h.inTime j hj,
    fun j e hj hk he => h.noSilence j e (.inl hj) hk he, h.room, h.fits, fun hlen => ?_, ?_⟩
  · rw [h.ioErr, Bool.false_or]
  · rw [← hticks]
    rcases h.stops hlen with hfull | hlate | ⟨hk, he⟩
    · exact .inl hfull
    · exact .inr (.inl hlate)
    · exact .inr (.inr ⟨hk.resolve_right nofun, he⟩)
  · have hcond {p : Prop} : (1 ≤ k ∨ false = true) ∧ p ↔ 1 ≤ k ∧ p := and_congr_left' (or_iff_left Bool.false_ne_true)
    rw [h.ending, List.nil_append]
    cases k with
    | zero =>
      have hnone : (answerBytes (ev.take 0)).length ≠ m := Nat.ne_of_lt hm
      exact (if_neg hnone).trans ((if_neg fun hp => absurd (hcond.1 hp).1 nofun).trans
        ((if_neg hnone).trans (if_neg fun hp => absurd hp.1 nofun)).symm)
    | succ k =>
      rw [hticks]
      exact if_congr Iff.rfl rfl (if_congr hcond rfl rfl)

end Sys2Proof.Proofs
end

section
/-! SUPPORT. UART.RXCHAR: the ticks before a character in which nothing ends, glitches among them, and the character itself
(42_transport_uart.md R201; 30_encoding.md R96; log 15, log 42). -/

namespace Sys2Proof.Proofs

open Sys2Proof.Machine Sys2Proof.Laws

/-! ### The receiver over a stretch of the line -/

/-- The receiver after these levels. -/
def urxAfter (c : Cfg) (u : Urx) (ls : List Bool) : Urx := ls.foldl (fun v l => (urxTick c l v).1) u

theorem urxAfter_cons (c : Cfg) (u : Urx) (l : Bool) (ls : List Bool) :
    urxAfter c u (l :: ls) = urxAfter c (urxTick c l u).1 ls := rfl

theorem urxAfter_append (c : Cfg) (u : Urx) (ls ms : List Bool) :
    urxAfter c u (ls ++ ms) = urxAfter c (urxAfter c u ls) ms := List.foldl_append

/-- The receiver of a run is the receiver after its levels. -/
theorem receiveRun_eq_urxAfter (c : Cfg) (ls : List Bool) (u : Urx) (idle : Nat) :
    (receiveRun c ls u idle).1 = urxAfter c u ls := by
  unfold receiveRun
  induction ls generalizing u idle with
  | nil => rfl
  | cons l ls ih => exact ih _ _

theorem urxAfter_enable (c : Cfg) (u : Urx) (ls : List Bool) : (urxAfter c u ls).enable = u.enable := by
  induction ls generalizing u with
  | nil => rfl
  | cons l ls ih => rw [urxAfter_cons, ih, urxTick_enable]

theorem nextChar_tick_none {c : Cfg} {u : Urx} {l : Bool} {ls : List Bool} (h : nextChar c u (l :: ls) = none) :
    (urxTick c l u).2 = none ∧ nextChar c (urxTick c l u).1 ls = none := by
  cases ht : (urxTick c l u).2 with
  | none =>
    rw [nextChar_of_none (Prod.ext rfl ht)] at h
    exact ⟨rfl, Option.map_eq_none_iff.1 h⟩
  | some item =>
    rw [nextChar_of_some (Prod.ext rfl ht)] at h
    cases h

/-- Levels in which no character ends put the next one off. -/
theorem nextChar_append {c : Cfg} {u : Urx} {ls : List Bool} (h : nextChar c u ls = none) (rest : List Bool) :
    nextChar c u (ls ++ rest) = (nextChar c (urxAfter c u ls) rest).map fun r => (r.1 + ls.length, r.2) := by
  induction ls generalizing u with
  | nil => cases hr : nextChar c u rest <;> simp [urxAfter, hr]
  | cons l ls ih =>
    obtain ⟨htick, hrest⟩ := nextChar_tick_none h
    rw [List.cons_append, nextChar_of_none (Prod.ext rfl htick), ih hrest, Option.map_map, urxAfter_cons]
    rfl

/-- The tick in which a character ends leaves the receiver between characters. -/
theorem urxTick_item_busy {c : Cfg} {u v : Urx} {l : Bool} {item : LinkItem} (h : urxTick c l u = (v, some item)) :
    v.busy = false := by
  cases he : u.enable with
  | false => rw [urxTick_off he] at h; cases h
  | true =>
    have inside {w : Urx} (hwe : w.enable = true) (hwb : w.busy = true) (hw : urxTick c l w = (v, some item)) : v.busy = false := by
      rcases urxTick_busy_cases (c := c) hwe hwb l with ⟨_, _, _, e⟩ | ⟨_, ⟨_, e⟩ | ⟨_, _, e⟩ | ⟨_, _, e⟩⟩ <;>
        rw [e] at hw <;> cases hw
      rfl
    cases hb : u.busy with
    | true => exact inside he hb h
    | false =>
      cases l with
      | true => rw [urxTick_quiet hb] at h; cases h
      | false =>
        rw [urxTick_begun he hb] at h
        exact inside ((begun_enable u).trans he) (begun_busy u) h

theorem nextChar_after {c : Cfg} {u : Urx} {ls : List Bool} {n : Nat} {item : LinkItem} (h : nextChar c u ls = some (n, item)) :
    (urxAfter c u (ls.take n)).busy = false := by
  induction ls generalizing u n with
  | nil => cases h
  | cons l ls ih =>
    cases ht : (urxTick c l u).2 with
    | none =>
      rw [nextChar_of_none (Prod.ext rfl ht)] at h
      obtain ⟨⟨m, _⟩, hm, heq⟩ := Option.map_eq_some_iff.1 h
      cases heq
      exact ih hm
    | some item' =>
      rw [nextChar_of_some (Prod.ext rfl ht)] at h
      cases h
      exact urxTick_item_busy (Prod.ext rfl ht)

/-! ### Nothing ends -/

theorem nextChar_quiet {c : Cfg} {u : Urx} (hb : u.busy = false) (n : Nat) :
    nextChar c u (List.replicate n true) = none ∧ urxAfter c u (List.replicate n true) = u := by
  induction n with
  | zero => exact ⟨rfl, rfl⟩
  | succ n ih =>
    obtain ⟨hnone, hafter⟩ := ih
    rw [List.replicate_succ, nextChar_of_none (urxTick_quiet hb), hnone, urxAfter_cons, urxTick_quiet hb, hafter]
    exact ⟨rfl, rfl⟩

/-- In the first half of a start bit the receiver only counts, whatever the level is. -/
theorem urxTick_beforeMiddle {c : Cfg} {u : Urx} (he : u.enable = true) (hb : u.busy = true)
    (ht : u.tickcnt < c.bitTicks / 2) (l : Bool) : urxTick c l u = ({ u with tickcnt := u.tickcnt + 1 }, none) := by
  have hsame : sampledShift c l u = u.shift := by
    rw [sampledShift, decide_eq_false ht.ne, Bool.false_and, if_neg Bool.false_ne_true]
  rcases urxTick_busy_cases (c := c) he hb l with ⟨hmid, _⟩ | ⟨_, ⟨_, e⟩ | ⟨hle, _⟩ | ⟨hle, _⟩⟩
  · omega
  · rw [e, hsame]
  · omega
  · omega

/-- A start bit that goes up before its middle is dropped there (R201). -/
theorem nextChar_dropped {c : Cfg} (n : Nat) {u : Urx} (he : u.enable = true) (hb : u.busy = true)
    (hbit : u.bitcnt = 0) (ht : u.tickcnt ≤ c.bitTicks / 2) (hn : c.bitTicks / 2 < u.tickcnt + n) :
    nextChar c u (List.replicate n true) = none ∧ (urxAfter c u (List.replicate n true)).busy = false := by
  induction n generalizing u with
  | zero => omega
  | succ n ih =>
    rw [List.replicate_succ, urxAfter_cons]
    rcases ht.lt_or_eq with hlt | hmid
    · have htick := urxTick_beforeMiddle (c := c) he hb hlt true
      obtain ⟨hnone, hafter⟩ := ih (u := { u with tickcnt := u.tickcnt + 1 }) he hb hbit hlt (by dsimp only; omega)
      rw [nextChar_of_none htick, htick, hnone]
      exact ⟨rfl, hafter⟩
    · rcases urxTick_busy_cases (c := c) he hb true with ⟨_, _, _, e⟩ | ⟨hno, _⟩
      · obtain ⟨hnone, hafter⟩ := nextChar_quiet (c := c) (u := { u with shift := 0, bitcnt := 0, tickcnt := 0, busy := false }) rfl n
        rw [nextChar_of_none e, e, hnone, hafter]
        exact ⟨rfl, rfl⟩
      · exact absurd ⟨hmid, hbit, rfl⟩ hno

/-- The low part of a glitch: the start bit has begun and its middle is still to come. -/
theorem nextChar_low {c : Cfg} (k : Nat) {u : Urx} (he : u.enable = true) (hb : u.busy = true)
    (hk : u.tickcnt + k ≤ c.bitTicks / 2) : nextChar c u (List.replicate k false) = none ∧
      urxAfter c u (List.replicate k false) = { u with tickcnt := u.tickcnt + k } := by
  induction k generalizing u with
  | zero => exact ⟨rfl, rfl⟩
  | succ k ih =>
    have htick := urxTick_beforeMiddle (c := c) he hb (by omega) false
    obtain ⟨hnone, hafter⟩ := ih (u := { u with tickcnt := u.tickcnt + 1 }) he hb (by dsimp only; omega)
    rw [List.replicate_succ, nextChar_of_none htick, urxAfter_cons, htick, hnone, hafter, Nat.add_assoc, Nat.add_comm 1 k]
    exact ⟨rfl, rfl⟩

/-- The next character is the same whether the receiver is taken before or after a start bit has begun. -/
theorem nextChar_of_begun {c : Cfg} {u : Urx} (he : u.enable = true) (hb : u.busy = false) (ls : List Bool) :
    nextChar c u (false :: ls) = nextChar c (begun u) (false :: ls) ∧
      urxAfter c u (false :: ls) = urxAfter c (begun u) (false :: ls) := by
  rw [nextChar, nextChar, urxAfter_cons, urxAfter_cons, urxTick_begun he hb]
  exact ⟨rfl, rfl⟩

/-- In a glitch no character ends, and the receiver is between characters after it (R201). -/
theorem nextChar_glitch {c : Cfg} {u : Urx} (he : u.enable = true) (hb : u.busy = false) {k n : Nat}
    (hk : 1 ≤ k) (hmid : k ≤ c.bitTicks / 2) (hn : c.bitTicks / 2 < k + n) :
    nextChar c u (List.replicate k false ++ List.replicate n true) = none ∧
      (urxAfter c u (List.replicate k false ++ List.replicate n true)).busy = false := by
  have hbegun : begun u = { u with shift := 0, bitcnt := 0, tickcnt := 0, busy := true } := by simp [begun, hb]
  obtain ⟨hlow, hafter⟩ := nextChar_low (c := c) k (u := begun u) ((begun_enable u).trans he) (begun_busy u)
    (by rw [hbegun]; dsimp only; omega)
  obtain ⟨hhigh, hrest⟩ := nextChar_dropped (c := c) n (u := { begun u with tickcnt := (begun u).tickcnt + k })
    ((begun_enable u).trans he) (begun_busy u) (by rw [hbegun]) (by rw [hbegun]; dsimp only; omega)
    (by rw [hbegun]; dsimp only; omega)
  have hlevels : ∃ ls, List.replicate k false ++ List.replicate n true = false :: ls := by
    obtain ⟨j, rfl⟩ := Nat.exists_eq_add_of_le' hk
    exact ⟨_, by rw [List.replicate_succ, List.cons_append]⟩
  obtain ⟨ls, hls⟩ := hlevels
  obtain ⟨hnext, hurx⟩ := nextChar_of_begun (c := c) he hb ls
  rw [← hls] at hnext hurx
  rw [hnext, hurx, nextChar_append hlow, urxAfter_append, hafter, hhigh]
  exact ⟨rfl, hrest⟩

/-! ### The character -/

/-- The levels of a character with the parity bit `p` and the first stop bit `stop`, right or wrong (R96). -/
def sentLevels (c : Cfg) (d : Byte) (p stop : Bool) : List Bool :=
  [false] ++ (List.range 8).map d.getLsbD ++ (if c.parity = .none then [] else [p]) ++ [stop] ++
    List.replicate (c.stopBits - 1) true

/-- With a first stop bit of 1 they are those of a character with this parity bit. -/
theorem sentLevels_true {c : Cfg} (hc : CfgFacts c) (d : Byte) (p : Bool) :
    sentLevels c d p true = frameLevels d (if c.parity = .none then none else some p) c.stopBits := by
  obtain ⟨n, hn⟩ : ∃ n, c.stopBits = n + 1 := by rcases hc.stopBits with h | h <;> exact ⟨_, h⟩
  rw [sentLevels, frameLevels, hn]
  cases c.parity <;> rfl

theorem sentLevels_length {c : Cfg} (hc : CfgFacts c) (d : Byte) (p stop : Bool) :
    (sentLevels c d p stop).length = charBits c := by
  rw [sentLevels, charBits]
  rcases hc.stopBits with h | h <;> cases c.parity <;> rw [h] <;> rfl

/-- A character is its byte if its first stop bit is 1 and its parity bit, if it has one, is that of R96; otherwise an error. -/
theorem sampledItem_sentLevels {c : Cfg} (hc : CfgFacts c) (d : Byte) (p stop : Bool) :
    sampledItem c (packLevels (sentLevels c d p stop)) =
      if stop = true ∧ (c.parity = .none ∨ parityBit c.parity d = some p) then .byte d else .error := by
  cases stop with
  | true =>
    rw [sentLevels_true hc, sampledItem_frameLevels hc d (by cases c.parity <;> rfl)]
    cases hpar : c.parity <;> simp [parityBit]
  | false =>
    have hlow : (packLevels (sentLevels c d p false)).getLsbD (stopIndex c) = false := by
      rw [packLevels_getLsbD (sentLevels_length hc d p false ▸ charBits_le_twelve hc), sentLevels, stopIndex]
      cases c.parity <;> rfl
    rw [sampledItem, if_pos hlow, if_neg (fun h => absurd h.1 Bool.false_ne_true)]

/-- A receiver between characters receives what comes after an idle line and a glitch, if there is one (R201). -/
theorem nextChar_sent {c : Cfg} (hc : CfgFacts c) {u : Urx} (he : u.enable = true) (hb : u.busy = false) (g : Nat)
    {glitch : List Bool} (hglitch : glitch = [] ∨ ∃ k n, 1 ≤ k ∧ k ≤ c.bitTicks / 2 ∧ c.bitTicks / 2 < k + n ∧
      glitch = List.replicate k false ++ List.replicate n true) (d : Byte) (p stop : Bool) (rest : List Bool) :
    nextChar c u (List.replicate g true ++ (glitch ++ (onLine c (sentLevels c d p stop) ++ rest))) =
      some (charTicks c + glitch.length + g,
        if stop = true ∧ (c.parity = .none ∨ parityBit c.parity d = some p) then .byte d else .error) := by
  obtain ⟨hidle, hquiet⟩ := nextChar_quiet (c := c) hb g
  have hnothing : nextChar c u glitch = none ∧ (urxAfter c u glitch).busy = false := by
    rcases hglitch with rfl | ⟨k, n, hk, hmid, hn, rfl⟩
    · exact ⟨rfl, hb⟩
    · exact nextChar_glitch he hb hk hmid hn
  obtain ⟨hnone, hafter⟩ := hnothing
  have hon : (urxAfter c u glitch).enable = true := (urxAfter_enable c u glitch).trans he
  have hstart : ∃ ls, onLine c (sentLevels c d p stop) ++ rest = false :: ls := by
    obtain ⟨k, hk⟩ := Nat.exists_eq_add_of_le' hc.bitTicks
    exact ⟨_, by rw [sentLevels, onLine, hk]; rfl⟩
  obtain ⟨ls, hls⟩ := hstart
  have hchar : nextChar c (urxAfter c u glitch) (onLine c (sentLevels c d p stop) ++ rest) =
      some (charTicks c, sampledItem c (packLevels (sentLevels c d p stop))) := by
    rw [hls, (nextChar_of_begun hon hafter ls).1, ← hls]
    exact nextChar_begun hc rest hon hafter (sentLevels_length hc d p stop) rfl
  rw [nextChar_append hidle, hquiet, nextChar_append hnone, hchar, sampledItem_sentLevels hc, List.length_replicate]
  rfl

theorem exec_uartRxchar (s : State) :
    exec .uartRxchar s = .next ((receiveChar s).1.setRes (.character (receiveChar s).2)) := rfl

/-- A character that ends in tick `n`: the time passes, the receiver is between characters, and the result is the character. -/
theorem receiveChar_some {s : State} {n : Nat} {item : LinkItem}
    (h : nextChar s.cfg s.urx (s.env.line ++ List.replicate (charTicks s.cfg) true) = some (n, item)) :
    (receiveChar s).1.env.line = s.env.line.drop n ∧ (receiveChar s).1.now = s.now + BitVec.ofNat 64 n ∧
      (receiveChar s).1.urx.enable = s.urx.enable ∧ (receiveChar s).1.urx.busy = false ∧ (receiveChar s).2 = some item := by
  rw [receiveChar, h]
  simp only [setTr_env, setUrx_env, passTicks_env, setTr_now, setUrx_now, passTicks_now, setTr_urx, setUrx_urx,
    receiveRun_eq_urxAfter, urxAfter_enable]
  exact ⟨trivial, trivial, trivial, nextChar_after h, trivial⟩

/-- Settles O27: what the operation touches in any state; and the idle line, the glitch and the character tick by tick. -/
theorem rxcharReceivesTheCharacter : Obligations.RxcharReceivesTheCharacter := by
  constructor
  · intro s
    have f : SendFrame s ((receiveChar s).1.setRes (.character (receiveChar s).2)) :=
      sendFrame_trans (receiveChar_frame s) (setRes_frame _ _)
    refine ⟨_, exec_uartRxchar s, f, read_of_sendFrame f, fun hoff => ?_⟩
    rw [receiveChar_off hoff]
    rfl
  · intro s g glitch d p stop rest hwf he hb hglitch hline
    have hc := (cfgWf_iff s.cfg).1 hwf
    have hnext := nextChar_sent hc he hb g hglitch d p stop (rest ++ List.replicate (charTicks s.cfg) true)
    have hlevels : s.env.line = List.replicate g true ++ (glitch ++ (onLine s.cfg (sentLevels s.cfg d p stop) ++ rest)) := by
      rw [hline, List.append_assoc, List.append_assoc]
      rfl
    have hpadded : s.env.line ++ List.replicate (charTicks s.cfg) true = List.replicate g true ++
        (glitch ++ (onLine s.cfg (sentLevels s.cfg d p stop) ++ (rest ++ List.replicate (charTicks s.cfg) true))) := by
      rw [hlevels]
      simp only [List.append_assoc]
    rw [← hpadded] at hnext
    obtain ⟨hrest, hnow, hon, hbetween, hitem⟩ := receiveChar_some hnext
    have hticks : charTicks s.cfg + glitch.length + g = g + glitch.length + charTicks s.cfg := by omega
    have hdrop : s.env.line.drop (g + glitch.length + charTicks s.cfg) = rest := by
      have hlen : (onLine s.cfg (sentLevels s.cfg d p stop)).length = charTicks s.cfg := by
        rw [onLine_length, sentLevels_length hc, charTicks]
      rw [hlevels, ← List.append_assoc, ← List.append_assoc]
      exact List.drop_left' (by simp [hlen]; omega)
    rw [hticks] at hrest hnow
    exact ⟨_, exec_uartRxchar s, hrest.trans hdrop, hnow, hon.trans he, hbetween, by rw [setRes_res, hitem]⟩

end Sys2Proof.Proofs
end

section
/-! SUPPORT. The receiver and its view of the line tick by tick: how far a character has come, what counts for the silence, and
when the next character of the view can begin (42_transport_uart.md R199, R201; log 13). -/

namespace Sys2Proof.Proofs

open Sys2Proof.Machine Sys2Proof.Laws

/-- Ticks since the start bit under way began. -/
def charAge (c : Cfg) (u : Urx) : Nat := if u.busy then u.bitcnt * c.bitTicks + u.tickcnt else 0

/-- A character is being received, seen with the line to come (log 13). -/
def inProgress (c : Cfg) (u : Urx) (line : List Bool) : Bool := u.busy && !falseStart c u line

/-- Silence so far, `gap` ticks of it before the start bit under way: a glitch counts, a character does not (R199; log 13). -/
def silentTicks (c : Cfg) (u : Urx) (line : List Bool) (gap : Nat) : Nat :=
  if inProgress c u line then gap else gap + charAge c u

theorem charInProgress_eq (s : State) : charInProgress s = inProgress s.cfg s.urx s.env.line := rfl

theorem inProgress_idle {c : Cfg} {u : Urx} (hb : u.busy = false) (line : List Bool) : inProgress c u line = false := by
  rw [inProgress, hb, Bool.false_and]

theorem charAge_idle {c : Cfg} {u : Urx} (hb : u.busy = false) : charAge c u = 0 := by
  rw [charAge, hb, if_neg Bool.false_ne_true]

theorem charAge_busy {c : Cfg} {u : Urx} (hb : u.busy = true) : charAge c u = u.bitcnt * c.bitTicks + u.tickcnt := if_pos hb

theorem silentTicks_idle {c : Cfg} {u : Urx} (hb : u.busy = false) (line : List Bool) (gap : Nat) :
    silentTicks c u line gap = gap := by
  rw [silentTicks, inProgress_idle hb, if_neg Bool.false_ne_true, charAge_idle hb, Nat.add_zero]

/-- Past its start bit a character is in progress. -/
theorem inProgress_later {c : Cfg} {u : Urx} (hb : u.busy = true) (hbit : u.bitcnt ≠ 0) (line : List Bool) :
    inProgress c u line = true := by
  simp [inProgress, falseStart, hb, hbit]

/-- In the start bit the level in its middle decides. -/
theorem inProgress_start {c : Cfg} {u : Urx} (hb : u.busy = true) (hbit : u.bitcnt = 0) (line : List Bool) :
    inProgress c u line = !(decide (u.tickcnt ≤ c.bitTicks / 2) && line.getD (c.bitTicks / 2 - u.tickcnt) true) := by
  simp [inProgress, falseStart, hb, hbit]

/-- A character under way is not yet over. -/
theorem charAge_lt {c : Cfg} (hc : CfgFacts c) {u : Urx} (h : UrxOk c u) : charAge c u < charTicks c := by
  cases hb : u.busy with
  | false => rw [charAge_idle hb]; exact charTicks_pos hc
  | true =>
    obtain ⟨_, _, hinside⟩ := h
    obtain ⟨hbit, htick⟩ := hinside hb
    have hle : (u.bitcnt + 1) * c.bitTicks ≤ charBits c * c.bitTicks := Nat.mul_le_mul_right _ hbit
    rw [Nat.succ_mul] at hle
    rw [charAge_busy hb, charTicks]
    omega

/-! ### One tick -/

/-- What a tick with no character ended does to the time, the silence and the character in progress. -/
structure GoesOn (c : Cfg) (u : Urx) (l : Bool) (v : Urx) (ls : List Bool) : Prop where
  time : ∀ gap, gapAfter gap u v none + charAge c v = gap + charAge c u + 1
  silence : ∀ gap, silentTicks c v ls (gapAfter gap u v none) =
    if inProgress c v ls then silentTicks c u (l :: ls) gap else silentTicks c u (l :: ls) gap + 1
  stays : inProgress c u (l :: ls) = true → inProgress c v ls = true ∧ ∀ gap, gapAfter gap u v none = gap

/-- A start bit or a character that goes on. -/
theorem goesOn_of_busy {c : Cfg} {u v : Urx} {l : Bool} {ls : List Bool} (hv : v.busy = true)
    (hage : charAge c v = charAge c u + 1) (hsame : inProgress c v ls = inProgress c u (l :: ls) ∨ charAge c u = 0)
    (hstays : inProgress c u (l :: ls) = true → inProgress c v ls = true) : GoesOn c u l v ls := by
  have hgap (gap : Nat) : gapAfter gap u v none = gap := if_pos hv
  refine ⟨fun gap => by rw [hgap, hage, Nat.add_assoc], fun gap => ?_, fun h => ⟨hstays h, hgap⟩⟩
  rw [hgap, silentTicks, silentTicks, hage]
  rcases hsame with hsame | hzero
  · rw [hsame]
    split <;> rfl
  · rw [hzero]
    split
    · split <;> rfl
    · split
      · rename_i hno hyes
        exact absurd (hstays hyes) hno
      · rfl

theorem bit_end {j r B : Nat} (h : r < B) (hle : B ≤ r + 1) : (j + 1) * B = j * B + r + 1 := by
  rw [Nat.succ_mul]
  omega

/-- Between characters an idle line only lengthens the gap. -/
theorem goesOn_quiet {c : Cfg} {u : Urx} (hb : u.busy = false) (ls : List Bool) : GoesOn c u true u ls := by
  have hgap (gap : Nat) : gapAfter gap u u none = gap + 1 := by simp [gapAfter, hb]
  refine ⟨fun gap => by rw [hgap, charAge_idle hb], fun gap => ?_, fun hp => ?_⟩
  · rw [hgap, silentTicks_idle hb, silentTicks_idle hb, inProgress_idle hb, if_neg Bool.false_ne_true]
  · rw [inProgress_idle hb] at hp
    cases hp

/-- The first tick of a start bit. -/
theorem goesOn_started {c : Cfg} {u v : Urx} (hb : u.busy = false) (hv : v.busy = true) (hage : charAge c v = 1)
    (ls : List Bool) : GoesOn c u false v ls := by
  refine goesOn_of_busy hv (by rw [hage, charAge_idle hb]) (.inr (charAge_idle hb)) fun hp => ?_
  rw [inProgress_idle hb] at hp
  cases hp

/-- A glitch is dropped: its ticks belong to the gap. -/
theorem goesOn_dropped {c : Cfg} {u v : Urx} (hb : u.busy = true) (hmid : u.tickcnt = c.bitTicks / 2) (hbit : u.bitcnt = 0)
    (hv : v.busy = false) (ls : List Bool) : GoesOn c u true v ls := by
  have hglitch : inProgress c u (true :: ls) = false := by
    rw [inProgress_start hb hbit, hmid]
    simp
  have hgap (gap : Nat) : gapAfter gap u v none = gap + charAge c u + 1 := by
    simp [gapAfter, glitchTicks, hb, hv, charAge_busy hb, hbit, Nat.add_assoc]
  refine ⟨fun gap => by rw [hgap, charAge_idle hv, Nat.add_zero], fun gap => ?_, fun hp => ?_⟩
  · rw [hgap, silentTicks_idle hv, inProgress_idle hv, silentTicks, hglitch]
    simp
  · rw [hglitch] at hp
    cases hp

/-- Whether a start bit is genuine stays as it is from tick to tick. -/
theorem inProgress_sameBit {c : Cfg} {u v : Urx} {l : Bool} (hb : u.busy = true)
    (hno : ¬ (u.tickcnt = c.bitTicks / 2 ∧ u.bitcnt = 0 ∧ l = true)) (hv : v.busy = true) (hbits : v.bitcnt = u.bitcnt)
    (hticks : v.tickcnt = u.tickcnt + 1) (ls : List Bool) : inProgress c v ls = inProgress c u (l :: ls) := by
  by_cases hbit : u.bitcnt = 0
  · rw [inProgress_start hb hbit, inProgress_start hv (hbits.trans hbit), hticks]
    rcases Nat.lt_trichotomy u.tickcnt (c.bitTicks / 2) with hlt | heq | hgt
    · rw [show c.bitTicks / 2 - u.tickcnt = c.bitTicks / 2 - (u.tickcnt + 1) + 1 by omega, List.getD_cons_succ,
        decide_eq_true hlt.le, decide_eq_true (show u.tickcnt + 1 ≤ c.bitTicks / 2 from hlt)]
    · have hlow : l = false := by simpa using fun hl => hno ⟨heq, hbit, hl⟩
      simp [heq, hlow]
    · rw [decide_eq_false (by omega), decide_eq_false (by omega)]
      rfl
  · rw [inProgress_later hb hbit, inProgress_later hv (by rw [hbits]; exact hbit)]

/-- In the last tick of a start bit it is clear that it is genuine. -/
theorem inProgress_lastTick {c : Cfg} {u : Urx} {l : Bool} (hb : u.busy = true) (htick : u.tickcnt < c.bitTicks)
    (hle : c.bitTicks ≤ u.tickcnt + 1) (hno : ¬ (u.tickcnt = c.bitTicks / 2 ∧ u.bitcnt = 0 ∧ l = true)) (ls : List Bool) :
    inProgress c u (l :: ls) = true := by
  by_cases hbit : u.bitcnt = 0
  · rw [inProgress_start hb hbit]
    by_cases hearly : u.tickcnt ≤ c.bitTicks / 2
    · have heq : u.tickcnt = c.bitTicks / 2 := by omega
      have hlow : l = false := by simpa using fun hl => hno ⟨heq, hbit, hl⟩
      simp [heq, hlow]
    · rw [decide_eq_false hearly]
      rfl
  · exact inProgress_later hb hbit _

/-- A tick in which no character ends: the line stays idle, a start bit begins, a glitch is dropped, or the character goes on. -/
theorem goesOn_tick {c : Cfg} (hc : CfgFacts c) {u v : Urx} (he : u.enable = true) (hok : UrxOk c u) {l : Bool}
    (h : urxTick c l u = (v, none)) (ls : List Bool) : GoesOn c u l v ls := by
  cases hb : u.busy with
  | false =>
    cases l with
    | true =>
      rw [urxTick_quiet hb] at h
      cases h
      exact goesOn_quiet hb ls
    | false =>
      have hbegun : begun u = { u with shift := 0, bitcnt := 0, tickcnt := 0, busy := true } := by simp [begun, hb]
      rw [urxTick_begun he hb, hbegun] at h
      rcases urxTick_busy_cases (c := c) (u := { u with shift := 0, bitcnt := 0, tickcnt := 0, busy := true }) he rfl false with
        ⟨_, _, hl, _⟩ | ⟨_, ⟨_, e⟩ | ⟨hle, _, e⟩ | ⟨_, _, e⟩⟩
      · cases hl
      · rw [e] at h
        cases h
        exact goesOn_started hb rfl (by simp [charAge]) ls
      · have hB : c.bitTicks = 1 := Nat.le_antisymm hle hc.bitTicks
        rw [e] at h
        cases h
        exact goesOn_started hb rfl (by simp [charAge, hB]) ls
      · rw [e] at h
        cases h
  | true =>
    obtain ⟨_, _, hinside⟩ := hok
    obtain ⟨_, htick⟩ := hinside hb
    have hage := charAge_busy (c := c) hb
    rcases urxTick_busy_cases (c := c) he hb l with ⟨hmid, hbit, rfl, e⟩ | ⟨hno, ⟨_, e⟩ | ⟨hle, _, e⟩ | ⟨_, _, e⟩⟩
    · rw [e] at h
      cases h
      exact goesOn_dropped hb hmid hbit rfl ls
    · rw [e] at h
      cases h
      have hsame := inProgress_sameBit (v := { u with shift := sampledShift c l u, tickcnt := u.tickcnt + 1 }) hb hno hb rfl rfl ls
      exact goesOn_of_busy hb (by rw [hage, charAge, if_pos hb, Nat.add_assoc]) (.inl hsame) (fun hp => hsame.trans hp)
    · rw [e] at h
      cases h
      have hnow := inProgress_lastTick hb htick hle hno ls
      have hnext := inProgress_later (c := c) (u := { u with shift := sampledShift c l u, bitcnt := u.bitcnt + 1, tickcnt := 0 })
        hb (Nat.succ_ne_zero _) ls
      exact goesOn_of_busy hb (by rw [hage, charAge, if_pos hb]; exact bit_end htick hle) (.inl (hnext.trans hnow.symm))
        fun _ => hnext
    · rw [e] at h
      cases h

/-- A character ends in its last tick. -/
theorem ends_tick {c : Cfg} (hc : CfgFacts c) {u v : Urx} (he : u.enable = true) (hok : UrxOk c u) {l : Bool} {item : LinkItem}
    (h : urxTick c l u = (v, some item)) (ls : List Bool) :
    inProgress c u (l :: ls) = true ∧ charAge c u + 1 = charTicks c := by
  have hbits := ten_le_charBits hc
  cases hb : u.busy with
  | false =>
    cases l with
    | true => rw [urxTick_quiet hb] at h; cases h
    | false =>
      have hbegun : begun u = { u with shift := 0, bitcnt := 0, tickcnt := 0, busy := true } := by simp [begun, hb]
      rw [urxTick_begun he hb] at h
      rcases urxTick_busy_cases (c := c) ((begun_enable u).trans he) (begun_busy u) false with
        ⟨_, _, _, e⟩ | ⟨_, ⟨_, e⟩ | ⟨_, _, e⟩ | ⟨_, hend, _⟩⟩
      · rw [e] at h; cases h
      · rw [e] at h; cases h
      · rw [e] at h; cases h
      · rw [hbegun] at hend
        dsimp only at hend
        omega
  | true =>
    obtain ⟨_, _, hinside⟩ := hok
    obtain ⟨hbit, htick⟩ := hinside hb
    rcases urxTick_busy_cases (c := c) he hb l with ⟨_, _, _, e⟩ | ⟨_, ⟨_, e⟩ | ⟨_, _, e⟩ | ⟨hle, hend, _⟩⟩
    · rw [e] at h; cases h
    · rw [e] at h; cases h
    · rw [e] at h; cases h
    · refine ⟨inProgress_later hb (by omega) _, ?_⟩
      rw [charAge_busy hb, charTicks, show charBits c = u.bitcnt + 1 by omega, bit_end htick hle]

/-! ### The view -/

/-- A tick with no character ended only brings the view a level nearer. -/
theorem viewFrom_tick {c : Cfg} {u : Urx} {l : Bool} (h : (urxTick c l u).2 = none) (gap : Nat) (ls : List Bool) :
    viewFrom c u gap (l :: ls) = viewFrom c (urxTick c l u).1 (gapAfter gap u (urxTick c l u).1 none) ls := by
  rw [viewFrom, h]

/-- The first character of the view begins after the silence so far, one in progress at its end. -/
theorem viewFrom_first {c : Cfg} (hc : CfgFacts c) {u : Urx} (he : u.enable = true) (hok : UrxOk c u) {line : List Bool}
    (hend : (urxAfter c u line).busy = false) (gap : Nat) :
    (∀ first item rest, viewFrom c u gap line = (first, item) :: rest → silentTicks c u line gap ≤ first ∧
      (inProgress c u line = true → first = gap)) ∧
    (inProgress c u line = true → viewFrom c u gap line ≠ []) := by
  induction line generalizing u gap with
  | nil =>
    refine ⟨nofun, fun hp => ?_⟩
    rw [inProgress_idle (u := u) hend] at hp
    cases hp
  | cons l ls ih =>
    cases ht : (urxTick c l u).2 with
    | some item' =>
      have htick : urxTick c l u = ((urxTick c l u).1, some item') := Prod.ext rfl ht
      obtain ⟨hp, _⟩ := ends_tick hc he hok htick ls
      rw [viewFrom_of_some htick, silentTicks, if_pos hp]
      refine ⟨?_, nofun⟩
      rintro _ _ _ ⟨⟩
      exact ⟨le_rfl, fun _ => rfl⟩
    | none =>
      have htick : urxTick c l u = ((urxTick c l u).1, none) := Prod.ext rfl ht
      have hon := goesOn_tick hc he hok htick ls
      obtain ⟨hfirst, hnext⟩ := ih ((urxTick_enable c l u).trans he) (urxTick_urxOk hc l hok) hend
        (gapAfter gap u (urxTick c l u).1 none)
      have hsilence := hon.silence gap
      rw [viewFrom_tick ht]
      refine ⟨fun first item rest hrest => ?_, fun hp => hnext (hon.stays hp).1⟩
      obtain ⟨hle, heq⟩ := hfirst first item rest hrest
      refine ⟨?_, fun hp => ?_⟩
      · split at hsilence <;> omega
      · obtain ⟨hp', hgap⟩ := hon.stays hp
        rw [heq hp', hgap]

/-- An idle line lets a character in progress end. -/
theorem urxAfter_settles {c : Cfg} (hc : CfgFacts c) (n : Nat) {u : Urx} (he : u.enable = true) (hok : UrxOk c u)
    (hn : u.busy = true → charTicks c ≤ charAge c u + n) : (urxAfter c u (List.replicate n true)).busy = false := by
  induction n generalizing u with
  | zero =>
    have := charAge_lt hc hok
    cases hb : u.busy with
    | false => exact hb
    | true =>
      have := hn hb
      omega
  | succ n ih =>
    rw [List.replicate_succ, urxAfter_cons]
    refine ih ((urxTick_enable c true u).trans he) (urxTick_urxOk hc true hok) fun hv => ?_
    cases ht : (urxTick c true u).2 with
    | some item =>
      rw [urxTick_item_busy (Prod.ext rfl ht)] at hv
      cases hv
    | none =>
      have htick : urxTick c true u = ((urxTick c true u).1, none) := Prod.ext rfl ht
      have htime := (goesOn_tick hc he hok htick []).time 0
      rw [gapAfter, if_pos hv] at htime
      cases hb : u.busy with
      | false =>
        rw [urxTick_quiet hb, hb] at hv
        cases hv
      | true =>
        have := hn hb
        omega

/-- The line and a character's time of idle line after it leave no character in progress. -/
theorem urxAfter_padded {c : Cfg} (hc : CfgFacts c) {u : Urx} (he : u.enable = true) (hok : UrxOk c u) (line : List Bool) :
    (urxAfter c u (line ++ List.replicate (charTicks c) true)).busy = false := by
  obtain ⟨hrun, _⟩ := receiveRun_urx hc line 0 hok
  rw [receiveRun_eq_urxAfter] at hrun
  rw [urxAfter_append]
  exact urxAfter_settles hc _ ((urxAfter_enable c u line).trans he) hrun fun _ => Nat.le_add_left _ _

end Sys2Proof.Proofs
end

section
/-! SUPPORT. The reception tick by tick is the reception at once (42_transport_uart.md R199, R201, R203; log 11, log 12, log 13). -/

namespace Sys2Proof.Proofs

open Sys2Proof.Machine Sys2Proof.Laws

/-! ### One tick of a reception -/

/-- What a tick leaves a reception: its phase and its bound, the receiver a tick on, the line a tick on. -/
structure RxTick (l : Bool) (s t : State) : Prop where
  cfg : t.cfg = s.cfg
  phase : t.tr.phase = .rx
  maxLen : t.tr.maxLen = s.tr.maxLen
  urx : t.urx = (urxTick s.cfg l s.urx).1
  line : t.env.line = s.env.line.tail

theorem receptionTick_kept (before : State) (item : Option LinkItem) (s : State) :
    (receptionTick before item s).tr.phase = s.tr.phase ∧ (receptionTick before item s).tr.maxLen = s.tr.maxLen ∧
      (receptionTick before item s).urx = s.urx := by
  unfold receptionTick
  split
  · exact ⟨rfl, rfl, rfl⟩
  · dsimp only
    split <;> exact ⟨rfl, rfl, rfl⟩

theorem tickWith_rx (l : Bool) {s : State} (hphase : s.tr.phase = .rx) : RxTick l s (tickWith l s) := by
  obtain ⟨i, _, htr⟩ := countedTick_tr l s
  obtain ⟨hkept, hmax, hurx⟩ :=
    receptionTick_kept s (urxTick s.cfg l s.urx).2 (countedTick l s)
  refine ⟨(tickWith_frame _ s).cfg, ?_, ?_, ?_, tickWith_line _ s⟩ <;> rw [tickWith_eq, transportTick, hphase] <;> dsimp only
  · rw [hkept, htr, hphase]
  · rw [hmax, htr]
  · rw [hurx, countedTick_urx]

/-- A tick with no character ended: time goes on, and the silence unless a character is in progress (R199). -/
theorem tickWith_none {l : Bool} {s : State} (hphase : s.tr.phase = .rx) (hover : receptionOver s = false)
    (htick : (urxTick s.cfg l s.urx).2 = none) :
    (tickWith l s).rx = s.rx ∧ (tickWith l s).rxlen = s.rxlen ∧
      (tickWith l s).tr.ioErr = s.tr.ioErr ∧ (tickWith l s).tr.timeoutCnt = s.tr.timeoutCnt + 1 ∧
      (tickWith l s).tr.silenceCnt =
        if seenChar s && !inProgress s.cfg (urxTick s.cfg l s.urx).1 s.env.line.tail
        then min (t35Ticks s.cfg) (s.tr.silenceCnt + 1) else s.tr.silenceCnt := by
  obtain ⟨i, _, htr⟩ := countedTick_tr l s
  have hseen : seenChar (countedTick l s) = seenChar s := by
    rw [seenChar, countedTick_rxlen, htr, ← seenChar]
  have hprogress : charInProgress (countedTick l s) =
      inProgress s.cfg (urxTick s.cfg l s.urx).1 s.env.line.tail := by
    rw [charInProgress_eq, countedTick_cfg, countedTick_urx]
    rfl
  rw [tickWith_eq, transportTick, hphase, htick]
  dsimp only
  rw [receptionTick, hover]
  simp only [Bool.false_eq_true, if_false, setTr_rx, setTr_rxlen, setTr_tr, countedTick_rx, countedTick_rxlen, hseen, hprogress,
    countedTick_cfg, htr]
  exact ⟨trivial, trivial, trivial, trivial, trivial⟩

/-! ### What the reception at once still makes of the line -/

/-- `seen` of R199 after these bytes and this error flag. -/
def seenOf (acc : List Byte) (err : Bool) : Bool := decide (0 < acc.length) || err

/-- After `k` ticks the reception at once, `r`, is what its loop makes of the line to come: the last character ended at tick `t`,
`gap` ticks before the start bit under way; `acc` and `err` are what it gave so far. -/
structure Receiving (s : State) (k : Nat) (r : Reception) (t gap : Nat) (acc : List Byte) (err : Bool) (line : List Bool) :
    Prop where
  phase : s.tr.phase = .rx
  enable : s.urx.enable = true
  urxOk : UrxOk s.cfg s.urx
  levels : ∀ i, line.getD i true = s.env.line.getD i true
  ends : (urxAfter s.cfg s.urx line).busy = false
  time : k = t + gap + charAge s.cfg s.urx
  inTime : k ≤ s.cfg.respTimeout
  timeoutCnt : s.tr.timeoutCnt = k
  rx : s.rx = Memory.writeN [] 0 acc
  rxlen : s.rxlen = acc.length
  ioErr : s.tr.ioErr = err
  room : acc.length < s.tr.maxLen
  silence : seenOf acc err = true → s.tr.silenceCnt = silentTicks s.cfg s.urx line gap ∧
    s.tr.silenceCnt ≤ t35Ticks s.cfg ∧ (inProgress s.cfg s.urx line = true → s.tr.silenceCnt < t35Ticks s.cfg)
  expects : receiveLoop (rxBounds s.cfg s.tr.maxLen) t (seenOf acc err) acc err (viewFrom s.cfg s.urx gap line) = r

theorem seenChar_of_receiving {s : State} {k : Nat} {r : Reception} {t gap : Nat} {acc : List Byte} {err : Bool}
    {line : List Bool} (h : Receiving s k r t gap acc err line) : seenChar s = seenOf acc err := by
  rw [seenChar, h.rxlen, h.ioErr, seenOf]

/-- The reception is over in `t`, at tick `k`, with what `r` says (R199, R202). -/
structure EndsAs (s : State) (k : Nat) (r : Reception) : Prop where
  endTick : r.endTick = k
  rxlen : s.rxlen = r.bytes.length
  rx : s.rx = Memory.writeN [] 0 r.bytes
  ioErr : s.tr.ioErr = r.ioErr

/-! ### The end by silence and the end by timeout -/

section
variable {b : RxBounds} {t : Nat} {acc : List Byte} {err : Bool}

/-- The loop ends by silence when no character begins in time for another end. -/
theorem receiveLoop_silent {view : Answer} {k : Nat} (hk : t + b.t35 = k) (hle : k ≤ b.timeout)
    (hfirst : ∀ first item rest, view = (first, item) :: rest → b.t35 ≤ first) :
    receiveLoop b t true acc err view = ⟨acc, err, .silence, k⟩ := by
  have hend : silenceEnd b t acc err = ⟨acc, err, .silence, k⟩ := by rw [silenceEnd, hk, if_pos hle]
  cases view with
  | nil => rw [receiveLoop, if_pos rfl, hend]
  | cons e view =>
    obtain ⟨first, item⟩ := e
    rw [receiveLoop_cons, if_pos ⟨rfl, hfirst _ _ _ rfl⟩, hend]

/-- The loop takes a character that begins before the silence is complete and ends, at tick `e`, by the timeout. -/
theorem receiveLoop_taken {seen : Bool} {gap e : Nat} {item : LinkItem} {view : Answer}
    (hsilence : ¬ (seen = true ∧ b.t35 ≤ gap)) (he : t + gap + b.charTicks = e) (hle : e ≤ b.timeout) :
    receiveLoop b t seen acc err ((gap, item) :: view) =
      if (acc ++ itemBytes item).length = b.m then ⟨acc ++ itemBytes item, err || item = .error, .maxlen, e⟩
      else receiveLoop b e true (acc ++ itemBytes item) (err || item = .error) view := by
  rw [receiveLoop_cons, if_neg hsilence, he, if_neg (Nat.not_lt.2 hle)]

/-- The loop ends by timeout when neither the silence nor the next character is complete by then (R207; log 12). -/
theorem receiveLoop_timeout {seen : Bool} {view : Answer}
    (hsilent : view = [] → seen = true → b.timeout < t + b.t35)
    (hfirst : ∀ first item rest, view = (first, item) :: rest → b.timeout < t + first + b.charTicks ∧
      (seen = true → b.t35 ≤ first → b.timeout < t + b.t35)) :
    receiveLoop b t seen acc err view = ⟨acc, err, .timeout, b.timeout⟩ := by
  cases view with
  | nil =>
    rw [receiveLoop]
    split
    · rename_i hseen
      rw [silenceEnd, if_neg (Nat.not_le.2 (hsilent rfl hseen))]
    · rfl
  | cons e view =>
    obtain ⟨first, item⟩ := e
    obtain ⟨hlate, hgap⟩ := hfirst _ _ _ rfl
    rw [receiveLoop_cons]
    split
    · rename_i hsilence
      rw [silenceEnd, if_neg (Nat.not_le.2 (hgap hsilence.1 hsilence.2))]
    · rfl

end

section
variable {s : State} {k : Nat} {r : Reception} {t gap : Nat} {acc : List Byte} {err : Bool} {line : List Bool}

/-- A silence that is complete ends the loop (R199): no character is in progress, and the next one begins after it. -/
theorem loop_of_silence (hc : CfgFacts s.cfg) (h : Receiving s k r t gap acc err line) (hseen : seenOf acc err = true)
    (hlong : t35Ticks s.cfg ≤ s.tr.silenceCnt) : r = ⟨acc, err, .silence, k⟩ := by
  obtain ⟨hfirst, _⟩ := viewFrom_first hc h.enable h.urxOk h.ends gap
  obtain ⟨hcnt, hle, hprogress⟩ := h.silence hseen
  have hidle : inProgress s.cfg s.urx line = false :=
    eq_false_of_ne_true fun hp => Nat.not_lt.2 hlong (hprogress hp)
  have hsilent : silentTicks s.cfg s.urx line gap = gap + charAge s.cfg s.urx := by
    rw [silentTicks, hidle, if_neg Bool.false_ne_true]
  have hk : t + (rxBounds s.cfg s.tr.maxLen).t35 = k := by
    have htime := h.time
    change t + t35Ticks s.cfg = k
    omega
  rw [← h.expects, hseen]
  refine receiveLoop_silent hk h.inTime fun first item rest hrest => ?_
  obtain ⟨hlow, _⟩ := hfirst first item rest hrest
  exact (by omega : t35Ticks s.cfg ≤ first)

/-- At the timeout, with no silence complete, neither a silence nor a character that is under way ends in time (R207; log 12). -/
theorem loop_of_timeout (hc : CfgFacts s.cfg) (h : Receiving s k r t gap acc err line) (hk : k = s.cfg.respTimeout)
    (hshort : seenOf acc err = true → s.tr.silenceCnt < t35Ticks s.cfg) : r = ⟨acc, err, .timeout, k⟩ := by
  obtain ⟨hfirst, hview⟩ := viewFrom_first hc h.enable h.urxOk h.ends gap
  have hage := charAge_lt hc h.urxOk
  have htime := h.time
  have hsilent (hseen : seenOf acc err = true) : silentTicks s.cfg s.urx line gap < t35Ticks s.cfg :=
    (h.silence hseen).1 ▸ hshort hseen
  have hlate (hidle : inProgress s.cfg s.urx line = false) (hseen : seenOf acc err = true) :
      s.cfg.respTimeout < t + t35Ticks s.cfg := by
    have hlt := hsilent hseen
    rw [silentTicks, hidle, if_neg Bool.false_ne_true] at hlt
    omega
  rw [← h.expects, hk]
  refine receiveLoop_timeout (fun hnone => hlate (eq_false_of_ne_true fun hp => hview hp hnone)) fun first item rest hrest => ?_
  obtain ⟨hlow, hstart⟩ := hfirst first item rest hrest
  change s.cfg.respTimeout < t + first + charTicks s.cfg ∧
    (seenOf acc err = true → t35Ticks s.cfg ≤ first → s.cfg.respTimeout < t + t35Ticks s.cfg)
  cases hp : inProgress s.cfg s.urx line with
  | false =>
    rw [silentTicks, hp, if_neg Bool.false_ne_true] at hlow
    exact ⟨by omega, fun hseen _ => hlate hp hseen⟩
  | true =>
    have hgap := hstart hp
    refine ⟨by omega, fun hseen hle => ?_⟩
    have hlt := hsilent hseen
    rw [silentTicks, hp, if_pos rfl] at hlt
    omega

/-- A reception that is over, by silence or by timeout, gave what the loop gives. -/
theorem endsAs_of_over (hc : CfgFacts s.cfg) (h : Receiving s k r t gap acc err line) (hover : receptionOver s = true) :
    EndsAs s k r := by
  have hdone {reason : EndReason} (hr : r = ⟨acc, err, reason, k⟩) : EndsAs s k r := by
    subst hr
    exact ⟨rfl, h.rxlen, h.rx, h.ioErr⟩
  have hnolength : endsByLength s = false := by
    rw [endsByLength, h.rxlen]
    exact decide_eq_false (Nat.not_le.2 h.room)
  rw [receptionOver, hnolength, Bool.false_or, Bool.or_eq_true, endsBySilence, endsByTimeout, seenChar_of_receiving h,
    Bool.and_eq_true, decide_eq_true_eq, decide_eq_true_eq, h.timeoutCnt] at hover
  by_cases hsilence : seenOf acc err = true ∧ t35Ticks s.cfg ≤ s.tr.silenceCnt
  · exact hdone (loop_of_silence hc h hsilence.1 hsilence.2)
  · have htimeout : k = s.cfg.respTimeout := Nat.le_antisymm h.inTime (hover.resolve_left hsilence)
    exact hdone (loop_of_timeout hc h htimeout fun hseen => Nat.not_le.1 fun hle => hsilence ⟨hseen, hle⟩)

/-! ### One tick -/

theorem getD_tail (ls : List Bool) (i : Nat) : ls.tail.getD i true = ls.getD (i + 1) true := by
  cases ls with
  | nil => rfl
  | cons l ls => rw [List.tail_cons, List.getD_cons_succ]

/-- Whether a character is in progress shows on any two lines that carry the same levels. -/
theorem inProgress_congr {c : Cfg} {u : Urx} {ls ms : List Bool} (h : ∀ i, ls.getD i true = ms.getD i true) :
    inProgress c u ls = inProgress c u ms := by
  rw [inProgress, inProgress, falseStart, falseStart, h]

/-- At the end of the levels looked at the line is idle. -/
theorem receiving_nonempty (h : Receiving s k r t gap acc err line) :
    ∃ l ls, Receiving s k r t gap acc err (l :: ls) := by
  cases line with
  | cons l ls => exact ⟨l, ls, h⟩
  | nil =>
    have hb : s.urx.busy = false := h.ends
    have hafter : urxAfter s.cfg s.urx [true] = s.urx := congrArg Prod.fst (urxTick_quiet hb)
    have hview : viewFrom s.cfg s.urx gap [true] = [] := by
      rw [viewFrom, urxTick_quiet hb]
      rfl
    have hexpects := h.expects
    have hsilence := h.silence
    refine ⟨true, [], { h with levels := fun i => ?_, ends := (congrArg Urx.busy hafter).trans hb, silence := ?_, expects := ?_ }⟩
    · rw [← h.levels i]
      cases i <;> rfl
    · rwa [inProgress_idle hb, silentTicks_idle hb] at hsilence ⊢
    · rwa [hview]

/-- A tick with no character ended leaves what the loop makes of the line as it is. -/
theorem receiving_goesOn (hc : CfgFacts s.cfg) {l : Bool} {ls : List Bool} (h : Receiving s k r t gap acc err (l :: ls))
    (hover : receptionOver s = false) (htick : (urxTick s.cfg l s.urx).2 = none) :
    Receiving (tickWith l s) (k + 1) r t (gapAfter gap s.urx (urxTick s.cfg l s.urx).1 none) acc err ls := by
  have hkept := tickWith_rx l h.phase
  obtain ⟨hrx, hrxlen, herr, htimeout, hsilence⟩ := tickWith_none h.phase hover htick
  obtain ⟨_, hspare⟩ := receptionOver_false hover
  rw [h.timeoutCnt] at hspare
  have hon := goesOn_tick hc h.enable h.urxOk (Prod.ext rfl htick : urxTick s.cfg l s.urx = (_, none)) ls
  have hline (i : Nat) : ls.getD i true = s.env.line.tail.getD i true := by
    rw [getD_tail, ← h.levels, List.getD_cons_succ]
  have hnotover : seenOf acc err = true → s.tr.silenceCnt < t35Ticks s.cfg := by
    intro hseen
    simp only [receptionOver, endsBySilence, seenChar_of_receiving h, hseen, Bool.or_eq_false_iff, Bool.true_and,
      decide_eq_false_iff_not, Nat.not_le] at hover
    exact hover.1.2
  have htime := hon.time gap
  refine
    { phase := hkept.phase
      enable := by rw [hkept.urx, urxTick_enable, h.enable]
      urxOk := by rw [hkept.cfg, hkept.urx]; exact urxTick_urxOk hc l h.urxOk
      levels := by rw [hkept.line]; exact hline
      ends := by rw [hkept.cfg, hkept.urx]; exact h.ends
      time := by rw [hkept.cfg, hkept.urx, Nat.add_assoc, htime, h.time]; omega
      inTime := by rw [hkept.cfg]; exact hspare
      timeoutCnt := by rw [htimeout, h.timeoutCnt]
      rx := by rw [hrx, h.rx]
      rxlen := by rw [hrxlen, h.rxlen]
      ioErr := by rw [herr, h.ioErr]
      room := by rw [hkept.maxLen]; exact h.room
      silence := fun hseen => ?_
      expects := ?_ }
  · obtain ⟨hcnt, _, _⟩ := h.silence hseen
    have hlt := hnotover hseen
    rw [seenChar_of_receiving h, hseen, Bool.true_and, ← inProgress_congr hline] at hsilence
    rw [hkept.cfg, hkept.urx, hon.silence gap, ← hcnt, hsilence]
    cases hp : inProgress s.cfg (urxTick s.cfg l s.urx).1 ls with
    | true => exact ⟨rfl, hlt.le, fun _ => hlt⟩
    | false =>
      rw [Bool.not_false, if_pos rfl, if_neg Bool.false_ne_true, Nat.min_eq_right hlt]
      exact ⟨rfl, hlt, nofun⟩
  · have hexpects := h.expects
    rw [viewFrom_tick htick] at hexpects
    rw [hkept.cfg, hkept.maxLen, hkept.urx]
    exact hexpects

/-- What an item adds to what the reception gave so far (R199, R203). -/
theorem charEnded_given (h : Receiving s k r t gap acc err line) {u : State} {item : LinkItem} (hend : CharEnded s u 1 item) :
    u.rx = Memory.writeN [] 0 (acc ++ itemBytes item) ∧ u.rxlen = (acc ++ itemBytes item).length ∧
      u.tr.ioErr = (err || item = .error) := by
  cases item with
  | byte d =>
    obtain ⟨hrx, hrxlen, herr⟩ := hend.byte d rfl
    refine ⟨?_, ?_, ?_⟩
    · rw [hrx, h.rx, h.rxlen, itemBytes, writeN_append, Nat.zero_add]
      rfl
    · rw [hrxlen, h.rxlen, itemBytes, List.length_append, List.length_singleton]
    · rw [herr, h.ioErr]
      exact (Bool.or_false err).symm
  | error =>
    obtain ⟨hrx, hrxlen, herr⟩ := hend.error rfl
    refine ⟨?_, ?_, ?_⟩
    · rw [hrx, h.rx, itemBytes, List.append_nil]
    · rw [hrxlen, h.rxlen, itemBytes, List.append_nil]
    · rw [herr]
      exact (Bool.or_true err).symm

/-- A character that ends is the loop's next one: it ends the reception by length, or the loop goes on from it. -/
theorem receiving_ended (hc : CfgFacts s.cfg) {l : Bool} {ls : List Bool} (h : Receiving s k r t gap acc err (l :: ls))
    (hover : receptionOver s = false) {item : LinkItem}
    (htick : (urxTick s.cfg l s.urx).2 = some item) :
    (receptionOver (tickWith l s) = true ∧ EndsAs (tickWith l s) (k + 1) r) ∨
    Receiving (tickWith l s) (k + 1) r (k + 1) 0 (acc ++ itemBytes item) (err || item = .error) ls := by
  have hstep : urxTick s.cfg l s.urx = ((urxTick s.cfg l s.urx).1, some item) := Prod.ext rfl htick
  have hkept := tickWith_rx l h.phase
  have hb := urxTick_item_busy hstep
  have hend := tickWith_ended h.phase hover hstep ((urxTick_enable s.cfg l s.urx).trans h.enable) hb
  obtain ⟨hrx, hrxlen, herr⟩ := charEnded_given h hend
  obtain ⟨hroom, hspare⟩ := receptionOver_false hover
  rw [h.timeoutCnt] at hspare
  obtain ⟨hp, hlast⟩ := ends_tick hc h.enable h.urxOk hstep ls
  have hend' : t + gap + charTicks s.cfg = k + 1 := by have := h.time; omega
  have hexpects := h.expects
  have hsilence : ¬ (seenOf acc err = true ∧ t35Ticks s.cfg ≤ gap) := by
    rintro ⟨hseen, hle⟩
    obtain ⟨hcnt, _, hlt⟩ := h.silence hseen
    rw [silentTicks, hp, if_pos rfl] at hcnt
    have := hlt hp
    omega
  rw [viewFrom_of_some hstep, receiveLoop_taken (b := rxBounds s.cfg s.tr.maxLen) hsilence hend' hspare] at hexpects
  by_cases hfull : (acc ++ itemBytes item).length = s.tr.maxLen
  · have hr := (if_pos hfull).symm.trans hexpects
    subst hr
    refine .inl ⟨?_, rfl, hrxlen, hrx, herr⟩
    rw [receptionOver, endsByLength, hkept.maxLen, hrxlen, hfull, decide_eq_true le_rfl, Bool.true_or, Bool.true_or]
  · have hr := (if_neg hfull).symm.trans hexpects
    have hseen : seenOf (acc ++ itemBytes item) (err || item = .error) = true := by
      cases item <;> simp [seenOf, itemBytes]
    have ht35 : 0 < t35Ticks s.cfg := by
      have := charTicks_pos hc
      have := t35Ticks_spec s.cfg
      omega
    refine .inr
      { phase := hkept.phase
        enable := hend.enable
        urxOk := by rw [hkept.cfg, hkept.urx]; exact urxTick_urxOk hc l h.urxOk
        levels := fun i => by rw [hkept.line, getD_tail, ← h.levels, List.getD_cons_succ]
        ends := by rw [hkept.cfg, hkept.urx]; exact h.ends
        time := by rw [hkept.cfg, charAge_idle hend.busy]
        inTime := by rw [hkept.cfg]; exact hspare
        timeoutCnt := by rw [hend.timeoutCnt, h.timeoutCnt]
        rx := hrx
        rxlen := hrxlen
        ioErr := herr
        room := by
          have hone : (itemBytes item).length ≤ 1 := by cases item <;> simp [itemBytes]
          rw [h.rxlen] at hroom
          rw [hkept.maxLen]
          rw [List.length_append] at hfull ⊢
          omega
        silence := fun _ => by
          rw [silentTicks_idle hend.busy, hend.silenceCnt, hkept.cfg]
          exact ⟨rfl, Nat.zero_le _, fun _ => ht35⟩
        expects := by
          rw [hseen, hkept.cfg, hkept.maxLen, hkept.urx]
          exact hr }

end

/-! ### All ticks -/

/-- Ticks on from `s`, which is `k` ticks into the reception, it is over for the first time, with what `r` says. -/
def EndsLater (s : State) (k : Nat) (r : Reception) : Prop :=
  ∃ m, (∀ j, j < m → receptionOver (lineTicks j s) = false) ∧ receptionOver (lineTicks m s) = true ∧
    EndsAs (lineTicks m s) (k + m) r

theorem endsLater_now {s : State} {k : Nat} {r : Reception} (hover : receptionOver s = true) (h : EndsAs s k r) :
    EndsLater s k r := ⟨0, nofun, hover, h⟩

theorem endsLater_tick {s : State} {k : Nat} {r : Reception} (hover : receptionOver s = false)
    (h : EndsLater (tickWith (rxdPort s) s) (k + 1) r) : EndsLater s k r := by
  obtain ⟨m, hbefore, hat, hends⟩ := h
  refine ⟨m + 1, fun j hj => ?_, hat, by rwa [Nat.add_assoc, Nat.add_comm 1 m] at hends⟩
  cases j with
  | zero => exact hover
  | succ j => exact hbefore j (Nat.lt_of_succ_lt_succ hj)

/-- A reception under way is over at the tick the loop says, and not before. -/
theorem endsLater_receiving (n : Nat) {s : State} (hc : CfgFacts s.cfg) {k : Nat} {r : Reception} {t gap : Nat}
    {acc : List Byte} {err : Bool} {line : List Bool} (h : Receiving s k r t gap acc err line)
    (hover : receptionOver s = false) (hn : s.cfg.respTimeout ≤ k + n) : EndsLater s k r := by
  induction n generalizing s k t gap acc err line with
  | zero =>
    obtain ⟨_, hspare⟩ := receptionOver_false hover
    rw [h.timeoutCnt] at hspare
    omega
  | succ n ih =>
    obtain ⟨l, ls, h⟩ := receiving_nonempty h
    have hport : rxdPort s = l := by
      have hlevel := h.levels 0
      rw [List.getD_cons_zero] at hlevel
      rw [hlevel, rxdPort]
      cases s.env.line <;> rfl
    have hcfg := (tickWith_frame l s).cfg
    have hrest {t' gap' : Nat} {acc' : List Byte} {err' : Bool}
        (h' : Receiving (tickWith l s) (k + 1) r t' gap' acc' err' ls) : EndsLater (tickWith l s) (k + 1) r := by
      cases hover' : receptionOver (tickWith l s) with
      | true => exact endsLater_now hover' (endsAs_of_over (hcfg ▸ hc) h' hover')
      | false => exact ih (hcfg ▸ hc) h' hover' (by rw [hcfg]; omega)
    refine endsLater_tick hover ?_
    rw [hport]
    cases htick : (urxTick s.cfg l s.urx).2 with
    | none => exact hrest (receiving_goesOn hc h hover htick)
    | some item =>
      rcases receiving_ended hc h hover htick with ⟨hover', hends⟩ | h'
      · exact endsLater_now hover' hends
      · exact hrest h'

theorem getD_padded (ls : List Bool) (n i : Nat) : (ls ++ List.replicate n true).getD i true = ls.getD i true := by
  rcases Nat.lt_or_ge i ls.length with h | h
  · exact List.getD_append _ _ _ _ h
  · rw [List.getD_append_right _ _ _ _ h, List.getD_eq_default _ _ h, List.getD_eq_getElem?_getD, List.getElem?_replicate]
    split <;> rfl

/-- Settles O36: the loop's view of the line and the ticks go on together from receive-enable to the end. -/
theorem receptionTickByTick : Obligations.ReceptionTickByTick := by
  intro s hwf hphase hurx hrx hrxlen hsilence htimeout herr _ hmax
  have hc := (cfgWf_iff s.cfg).1 hwf
  have hok : UrxOk s.cfg s.urx := by
    rw [hurx]
    exact urxOk_between rfl rfl rfl rfl
  have he : s.urx.enable = true := by rw [hurx]; rfl
  have hb : s.urx.busy = false := by rw [hurx]; rfl
  have hstart : Receiving s 0 (reception s.tr.maxLen s) 0 0 [] false
      (s.env.line ++ List.replicate (charTicks s.cfg) true) :=
    { phase := hphase
      enable := he
      urxOk := hok
      levels := getD_padded _ _
      ends := urxAfter_padded hc he hok _
      time := by rw [charAge_idle hb]
      inTime := Nat.zero_le _
      timeoutCnt := htimeout
      rx := hrx
      rxlen := hrxlen
      ioErr := herr
      room := Nat.lt_of_lt_of_le (by decide) hmax
      silence := nofun
      expects := by
        rw [reception, heard, if_pos he, receiverView, hurx]
        rfl }
  have hover : receptionOver s = false := by
    refine receptionOver_of (by omega) (by rw [htimeout]; exact hc.respTimeout) fun hseen => ?_
    rw [seenChar_of_receiving hstart] at hseen
    cases hseen
  obtain ⟨m, hbefore, hat, hends⟩ := endsLater_receiving s.cfg.respTimeout hc hstart hover (Nat.le_add_left _ _)
  have hm : (reception s.tr.maxLen s).endTick = m := hends.endTick.trans (Nat.zero_add m)
  refine ⟨_, rfl, ?_⟩
  rw [hm]
  exact ⟨hbefore, hat, hends.rxlen, fun k => (congrArg (Memory.read · k) hends.rx).trans (read_writeN_nil _ k), hends.ioErr⟩

end Sys2Proof.Proofs
end

section
/-! SUPPORT. The classes of R244, and the attempts of a poll: which one is the last, and what it leaves (43_modbus_master.md R242
to R247). -/

namespace Sys2Proof.Proofs

open Sys2Proof.Machine Sys2Proof.Laws

/-! ### The table of R244 -/

theorem verdict_retry_iff (o : AttemptResult) : verdict o = .retry ↔ o = .transport .timeout ∨ o = .transport .ioFailure ∨
    o = .decoded (.err .crcMismatch) ∨ o = .decoded (.err .shortFrame) := by
  cases o with
  | transport e => cases e <;> simp [verdict]
  | decoded d =>
    cases d with
    | ok f => simp [verdict]
    | err e => cases e <;> simp [verdict]

theorem verdict_reject_iff (o : AttemptResult) : verdict o = .reject ↔
    o = .decoded (.err .slaveMismatch) ∨ ∃ code, o = .decoded (.err (.exceptionResponse code)) := by
  cases o with
  | transport e => cases e <;> simp [verdict]
  | decoded d =>
    cases d with
    | ok f => simp [verdict]
    | err e => cases e <;> simp [verdict]

/-- Settles O42: the table, class by class. -/
theorem retryClasses : Obligations.RetryClasses := ⟨fun _ => rfl, verdict_retry_iff, verdict_reject_iff⟩

/-- A decoder's error is in one of the two other classes. -/
theorem verdict_err_ne_success (e : FrameError) (f : List U16) : verdict (.decoded (.err e)) ≠ .success f := by
  cases e <;> nofun

/-- A Transport's error is always retried. -/
theorem verdict_transport (e : TransportError) : verdict (.transport e) = .retry := by
  cases e <;> rfl

/-! ### Which attempt is the last -/

/-- The result of a poll whose last attempt is of this class (R242, R246). -/
def resultOf : Verdict → PollResult
  | .success f => .ok f
  | .reject => .err .protocolFault
  | .retry => .err .unreachable

theorem resultOf_ok {v : Verdict} {f : List U16} (h : resultOf v = .ok f) : v = .success f := by
  cases v <;> cases h
  rfl

theorem resultOf_err {v : Verdict} {e : PollError} (h : resultOf v = .err e) (f : List U16) : v ≠ .success f := by
  rintro rfl
  cases h

section
variable (req : List Byte) (slave : Byte) (n : U16)

/-- The state in which the next attempt begins, if the one that begins in `s` is retried (R245). -/
def nextStart (s : State) : State :=
  returnFromError (idlePass (attempt req slave n s).1.cfg.backoff (takeError (attempt req slave n s).1))

/-- Attempt `j` (from 0), if those before it are all retried: what it leaves and its outcome. -/
def attemptAt (s : State) (j : Nat) : State × AttemptResult := attempt req slave n (attemptStart req slave n j s)

theorem attemptAt_zero (s : State) : attemptAt req slave n s 0 = attempt req slave n s := rfl

theorem attemptAt_succ (s : State) (j : Nat) :
    attemptAt req slave n s (j + 1) = attemptAt req slave n (nextStart req slave n s) j := by
  rw [attemptAt, attemptAt, attemptStart, nextStart]

theorem attempts_zero (s : State) : attempts req slave n 0 s =
    ((attempt req slave n s).1, resultOf (verdict (attempt req slave n s).2)) := by
  rw [attempts]
  cases verdict (attempt req slave n s).2 <;> rfl

theorem attempts_of_not_retry {s : State} (h : verdict (attempt req slave n s).2 ≠ .retry) (k : Nat) :
    attempts req slave n k s = ((attempt req slave n s).1, resultOf (verdict (attempt req slave n s).2)) := by
  cases k with
  | zero => exact attempts_zero req slave n s
  | succ k =>
    rw [attempts_succ]
    cases hv : verdict (attempt req slave n s).2 with
    | retry => exact absurd hv h
    | _ => rfl

theorem attempts_of_retry {s : State} (h : verdict (attempt req slave n s).2 = .retry) (k : Nat) :
    attempts req slave n (k + 1) s = attempts req slave n k (nextStart req slave n s) := by
  rw [attempts_succ, h]
  rfl

/-- With `k` retries allowed, attempt `j` is the last and decides the poll (R246). -/
structure LastAttempt (k : Nat) (s : State) (j : Nat) : Prop where
  allowed : j ≤ k
  retried : ∀ i, i < j → verdict (attemptAt req slave n s i).2 = .retry
  exhausted : verdict (attemptAt req slave n s j).2 = .retry → j = k
  decides : attempts req slave n k s = ((attemptAt req slave n s j).1, resultOf (verdict (attemptAt req slave n s j).2))

/-- The first attempt is the last one if it is not retried, or if no retry is left. -/
theorem lastAttempt_first {k : Nat} {s : State} (hk : verdict (attempt req slave n s).2 = .retry → 0 = k)
    (hd : attempts req slave n k s = ((attempt req slave n s).1, resultOf (verdict (attempt req slave n s).2))) :
    LastAttempt req slave n k s 0 :=
  ⟨Nat.zero_le k, nofun, hk, hd⟩

/-- Every poll has a last attempt: the first that is not retried, or the one after which no retry is left. -/
theorem exists_lastAttempt (k : Nat) (s : State) : ∃ j, LastAttempt req slave n k s j := by
  induction k generalizing s with
  | zero => exact ⟨0, lastAttempt_first req slave n (fun _ => rfl) (attempts_zero req slave n s)⟩
  | succ k ih =>
    by_cases hv : verdict (attempt req slave n s).2 = .retry
    · obtain ⟨j, h⟩ := ih (nextStart req slave n s)
      refine ⟨j + 1, Nat.succ_le_succ h.allowed, fun i hi => ?_, ?_, ?_⟩
      · cases i with
        | zero => rwa [attemptAt_zero]
        | succ i => rw [attemptAt_succ]; exact h.retried i (Nat.lt_of_succ_lt_succ hi)
      · rw [attemptAt_succ]
        exact fun hr => congrArg (· + 1) (h.exhausted hr)
      · rw [attemptAt_succ, attempts_of_retry req slave n hv]
        exact h.decides
    · exact ⟨0, lastAttempt_first req slave n (fun hr => absurd hr hv) (attempts_of_not_retry req slave n hv (k + 1))⟩

/-! ### What an attempt leaves -/

theorem attempt_of_err {s : State} {e : TransportError}
    (h : (transact req (maxLenOf n.toNat) (s.setMstPhase .transact)).2 = .err e) :
    attempt req slave n s = ((transact req (maxLenOf n.toNat) (s.setMstPhase .transact)).1, .transport e) := by
  rw [attempt, h]

/-- What `k` attempts leave alone, the request among it, and the answers they use up (R205, R242). -/
structure Attempted (k : Nat) (s t : State) : Prop extends PollFrame s t where
  tx : t.tx = s.tx
  answers : t.env.answers = s.env.answers.drop k

theorem attempted_trans {j k : Nat} {s t u : State} (h : Attempted j s t) (g : Attempted k t u) : Attempted (j + k) s u :=
  ⟨pollFrame_trans h.toPollFrame g.toPollFrame, g.tx.trans h.tx, by rw [g.answers, h.answers, List.drop_drop]⟩

/-- What an attempt that begins in `s` and has outcome `o` leaves (R165, R191, R197, R242). -/
structure AttemptEnds (s : State) (o : AttemptResult) (t : State) : Prop extends Attempted 1 s t where
  count : t.mst.attempt = s.mst.attempt
  success : ∀ f, verdict o = .success f → t.regframe = f ∧ t.regframeValid = true
  failure : (∀ f, verdict o ≠ .success f) → t.regframe = s.regframe ∧ t.regframeValid = s.regframeValid
  dirState : t.dirState = false
  urx : t.urx = urxOff
  phase : t.tr.phase = .done

/-- What a transaction leaves to the attempt it is part of (R191, R197, R205). -/
structure TransactEnds (s t : State) : Prop extends LinkFrame s t where
  answers : t.env.answers = s.env.answers.drop 1
  dirState : t.dirState = false
  urx : t.urx = urxOff
  phase : t.tr.phase = .done

theorem transact_ends (m : Nat) (s : State) : TransactEnds s (transact req m s).1 := by
  obtain ⟨hphase, hurx⟩ := transact_phase req m s
  obtain ⟨hdir, _⟩ := transact_rests req m s
  exact ⟨transact_frame req m s, (transact_answers req m s).trans List.drop_one.symm, hdir, hurx, hphase⟩

/-- The attempt ends with its transaction, if that delivers no bytes (R242). -/
theorem attemptEnds_of_err {s t : State} (h : TransactEnds (s.setMstPhase .transact) t) (e : TransportError) :
    AttemptEnds s (.transport e) t where
  toPollFrame := pollFrame_trans (setMst_frame s _) h.toPollFrame
  tx := h.tx
  answers := h.answers
  count := (mst_attempt_of_linkFrame h.toLinkFrame).trans rfl
  success f hf := absurd (verdict_transport e) (by rw [hf]; nofun)
  failure _ := ⟨h.regframe, h.regframeValid⟩
  dirState := h.dirState
  urx := h.urx
  phase := h.phase

/-- The decoder adds `crc`, and on success the register frame (R165, R242). -/
theorem attemptEnds_of_bytes {s t : State} (h : TransactEnds (s.setMstPhase .transact) t) (bytes : List Byte) :
    AttemptEnds s (.decoded (decodeResponse bytes slave n)) (decodeInto bytes slave n (t.setMstPhase .decode)).1 := by
  have hframe := pollFrame_trans (setMst_frame s _) (pollFrame_trans h.toPollFrame
    (pollFrame_trans (setMst_frame t _) (decodeInto_frame bytes slave n (t.setMstPhase .decode))))
  have hcount := mst_attempt_of_linkFrame h.toLinkFrame
  cases hd : decodeResponse bytes slave n with
  | ok g =>
    rw [decodeInto_of_ok hd] at hframe ⊢
    refine ⟨⟨hframe, h.tx, h.answers⟩, hcount, ?_, fun hno => absurd rfl (hno g), h.dirState, h.urx, h.phase⟩
    rintro _ ⟨⟩
    exact ⟨rfl, rfl⟩
  | err e =>
    rw [decodeInto_of_err hd] at hframe ⊢
    exact ⟨⟨hframe, h.tx, h.answers⟩, hcount, fun g hg => absurd hg (verdict_err_ne_success e g),
      fun _ => ⟨h.regframe, h.regframeValid⟩, h.dirState, h.urx, h.phase⟩

theorem attempt_ends (s : State) : AttemptEnds s (attempt req slave n s).2 (attempt req slave n s).1 := by
  have h := transact_ends req (maxLenOf n.toNat) (s.setMstPhase .transact)
  cases hr : (transact req (maxLenOf n.toNat) (s.setMstPhase .transact)).2 with
  | ok bytes =>
    rw [attempt_of_ok hr]
    exact attemptEnds_of_bytes slave n h bytes
  | err e =>
    rw [attempt_of_err req slave n hr]
    exact attemptEnds_of_err h e

theorem attemptAt_ends (s : State) (j : Nat) :
    AttemptEnds (attemptStart req slave n j s) (attemptAt req slave n s j).2 (attemptAt req slave n s j).1 :=
  attempt_ends req slave n _

theorem nextStart_attempted (s : State) : Attempted 1 s (nextStart req slave n s) := by
  have h := (attempt_ends req slave n s).toAttempted
  rw [nextStart]
  generalize (attempt req slave n s).1 = a at *
  have hwait : Attempted 0 a (returnFromError (idlePass a.cfg.backoff (takeError a))) := by
    refine ⟨pollFrame_trans (setMst_frame a _) (pollFrame_trans (idlePass_frame _ _).toPollFrame (setMst_frame _ _)), ?_, ?_⟩
    · rw [returnFromError_tx, idlePass_tx, takeError_tx]
    · rw [returnFromError_env, idlePass_env, takeError_env]
      rfl
  exact attempted_trans h hwait

/-- A retry counts one attempt (R243). -/
theorem nextStart_count (s : State) : (nextStart req slave n s).mst.attempt = s.mst.attempt + 1 := by
  rw [nextStart, returnFromError_mst, idlePass_mst_frame, takeError_mst, ← (attempt_ends req slave n s).count]

/-- An attempt that is retried has not touched the register frame, nor has the backoff. -/
theorem nextStart_regframe {s : State} (h : verdict (attempt req slave n s).2 = .retry) :
    (nextStart req slave n s).regframe = s.regframe ∧ (nextStart req slave n s).regframeValid = s.regframeValid := by
  rw [nextStart, returnFromError_regframe, returnFromError_regframeValid, idlePass_regframe, idlePass_regframeValid,
    takeError_regframe, takeError_regframeValid]
  exact (attempt_ends req slave n s).failure fun f => by rw [h]; nofun

/-- Where attempt `j` begins. -/
theorem attemptStart_attempted (j : Nat) (s : State) : Attempted j s (attemptStart req slave n j s) ∧
    (attemptStart req slave n j s).mst.attempt = s.mst.attempt + j := by
  induction j generalizing s with
  | zero => exact ⟨⟨pollFrame_refl s, rfl, rfl⟩, rfl⟩
  | succ j ih =>
    obtain ⟨hkept, hcount⟩ := ih (nextStart req slave n s)
    have hall := attempted_trans (nextStart_attempted req slave n s) hkept
    rw [nextStart_count, Nat.add_assoc] at hcount
    rw [Nat.add_comm 1 j] at hall hcount
    exact ⟨hall, hcount⟩

/-- If the attempts before it are retried, attempt `j` finds the register frame of the beginning. -/
theorem attemptStart_regframe {j : Nat} {s : State} (h : ∀ i, i < j → verdict (attemptAt req slave n s i).2 = .retry) :
    (attemptStart req slave n j s).regframe = s.regframe ∧
      (attemptStart req slave n j s).regframeValid = s.regframeValid := by
  induction j generalizing s with
  | zero => exact ⟨rfl, rfl⟩
  | succ j ih =>
    have hfirst := h 0 (Nat.succ_pos j)
    rw [attemptAt_zero] at hfirst
    obtain ⟨hframe, hvalid⟩ := nextStart_regframe req slave n hfirst
    obtain ⟨hframe', hvalid'⟩ := ih (s := nextStart req slave n s) fun i hi => by
      rw [← attemptAt_succ]
      exact h (i + 1) (Nat.succ_lt_succ hi)
    exact ⟨hframe'.trans hframe, hvalid'.trans hvalid⟩

end

/-! ### The poll -/

/-- What a poll leaves, with its result `r` (R242, R247). -/
structure PollEnds (slave : Byte) (start n : U16) (s t : State) (r : PollResult) : Prop extends PollFrame s t where
  request : t.tx = Memory.writeN s.tx 0 (requestBytes slave start n)
  success : ∀ f, r = .ok f → f.length = n.toNat ∧ t.regframe = f ∧ t.regframeValid = true
  failure : ∀ e, r = .err e → t.regframe = s.regframe ∧ t.regframeValid = s.regframeValid
  count : t.mst.attempt ≤ s.cfg.retryCount
  dirState : t.dirState = false
  urx : t.urx = urxOff
  phase : t.tr.phase = .done

/-- The last attempt of a poll: it decides the result, its number and the answers used up are those of all attempts. -/
theorem exists_last_of_poll (slave : Byte) (start n : U16) (s : State) : ∃ j,
    LastAttempt (requestBytes slave start n) slave n s.cfg.retryCount (pollStart slave start n s) j ∧
    (poll slave start n s).2 =
      resultOf (verdict (attemptAt (requestBytes slave start n) slave n (pollStart slave start n s) j).2) ∧
    (poll slave start n s).1.env.answers = s.env.answers.drop (j + 1) ∧ (poll slave start n s).1.mst.attempt = j := by
  obtain ⟨j, h⟩ := exists_lastAttempt (requestBytes slave start n) slave n s.cfg.retryCount (pollStart slave start n s)
  obtain ⟨hstart, hnum⟩ := attemptStart_attempted (requestBytes slave start n) slave n j (pollStart slave start n s)
  have hend := attemptAt_ends (requestBytes slave start n) slave n (pollStart slave start n s) j
  rw [pollStart_attempt, Nat.zero_add] at hnum
  refine ⟨j, h, ?_⟩
  rw [poll_eq_attempts, h.decides]
  generalize attemptAt (requestBytes slave start n) slave n (pollStart slave start n s) j = a at *
  exact ⟨rfl, (attempted_trans hstart hend.toAttempted).answers, hend.count.trans hnum⟩

theorem poll_ends (slave : Byte) (start n : U16) (s : State) :
    PollEnds slave start n s (poll slave start n s).1 (poll slave start n s).2 := by
  obtain ⟨j, h, _, _, hcount⟩ := exists_last_of_poll slave start n s
  have f := poll_frame slave start n s
  have hlength {g} := attempts_length (requestBytes slave start n) slave n s.cfg.retryCount (pollStart slave start n s) (f := g)
  obtain ⟨hstart, _⟩ := attemptStart_attempted (requestBytes slave start n) slave n j (pollStart slave start n s)
  obtain ⟨hframe, hvalid⟩ := attemptStart_regframe (requestBytes slave start n) slave n h.retried
  have hend := attemptAt_ends (requestBytes slave start n) slave n (pollStart slave start n s) j
  have hle : j ≤ s.cfg.retryCount := h.allowed
  rw [poll_eq_attempts, h.decides] at f hcount ⊢
  rw [h.decides] at hlength
  generalize attemptAt (requestBytes slave start n) slave n (pollStart slave start n s) j = a at *
  refine ⟨f, hend.tx.trans hstart.tx, fun g hg => ⟨hlength hg, hend.success g (resultOf_ok hg)⟩, fun e he => ?_,
    by rw [hcount]; exact hle, hend.dirState, hend.urx, hend.phase⟩
  obtain ⟨hframe', hvalid'⟩ := hend.failure (resultOf_err he)
  exact ⟨hframe'.trans hframe, hvalid'.trans hvalid⟩

/-- The request stands in `TX` at 0..7, and elsewhere `TX` is as before (R160). -/
theorem read_request {slave : Byte} {start n : U16} {m tx : Memory} (h : tx = Memory.writeN m 0 (requestBytes slave start n)) :
    (∀ k, k < 8 → Memory.read tx k = (requestBytes slave start n)[k]?) ∧ ∀ k, 8 ≤ k → Memory.read tx k = Memory.read m k := by
  subst h
  refine ⟨fun k hk => ?_, fun k hk => read_writeN_other _ _ 0 (.inr (by simpa using hk))⟩
  have hread := read_writeN (requestBytes slave start n) m 0 k hk
  rwa [Nat.zero_add] at hread

/-- Settles O40: a poll with operands in range runs its attempts, and the last of them decides. -/
theorem pollCompletes : Obligations.PollCompletes := by
  intro s slave a n _
  refine ⟨fun hvalid => ?_, fun hinvalid => if_neg (by rw [hinvalid]; exact Bool.false_ne_true)⟩
  have h := poll_ends slave a n s
  have hexec := exec_mstPoll hvalid
  obtain ⟨hrequest, hother⟩ := read_request h.request
  generalize poll slave a n s = p at *
  exact ⟨_, _, hexec, rfl, hrequest, hother, h.success, h.failure, h.count, h.dirState, h.urx, h.phase, rfl,
    pollFrame_trans h.toPollFrame (pollFrame_trans (setMst_frame _ _) (setRes_frame _ _).toPollFrame)⟩

/-- Settles O41: the attempts before the last are retried; the last is not, or it is attempt `1 + RETRY_COUNT`. -/
theorem exactAttemptCounts : Obligations.ExactAttemptCounts := by
  intro s slave a n hvalid
  obtain ⟨j, h, hresult, hanswers, hcount⟩ := exists_last_of_poll slave a n s
  have hle : j ≤ s.cfg.retryCount := h.allowed
  refine ⟨_, _, j + 1, exec_mstPoll hvalid, rfl, Nat.succ_pos j, by omega, hanswers, congrArg (· + 1) hcount,
    fun i => (attemptAt (requestBytes slave a n) slave n (pollStart slave a n s) i).2, fun _ => rfl,
    fun i hi => h.retried i (Nat.lt_of_succ_lt_succ hi), ?_, fun htimeout => ?_, fun code hcode => ?_⟩ <;> rw [hresult]
  · rw [Nat.add_sub_cancel]
    dsimp only
    cases hv : verdict (attemptAt (requestBytes slave a n) slave n (pollStart slave a n s) j).2 with
    | success f => exact .inl ⟨f, rfl, rfl⟩
    | reject => exact .inr (.inl ⟨rfl, rfl⟩)
    | retry => exact .inr (.inr ⟨rfl, by rw [h.exhausted hv, Nat.add_comm], rfl⟩)
  · have hv := (congrArg verdict (htimeout j)).trans (verdict_transport _)
    exact ⟨congrArg resultOf hv, by rw [h.exhausted hv, Nat.add_comm]⟩
  · dsimp only at hcode
    have hfirst : j = 0 := by
      refine Nat.eq_zero_of_not_pos fun hpos => ?_
      have hretried := h.retried 0 hpos
      rw [hcode] at hretried
      cases hretried
    subst hfirst
    exact ⟨congrArg (fun o => resultOf (verdict o)) hcode, rfl⟩

end Sys2Proof.Proofs
end

section
/-! SUPPORT. CONVERT, and what a presented cycle publishes and reports (43_modbus_master.md R248 to R252; 44_sample_pipeline.md
R271, R276). -/

namespace Sys2Proof.Proofs

open Sys2Proof.Machine Sys2Proof.Laws

/-! ### CONVERT -/

/-- The slot after the registers `v` and `i` have been converted at `now` and published (R271, R276). -/
def snapOf (c : Cfg) (v i : U16) (now : BitVec 64) : Snap where
  valid := true
  voltage := scaleV c.numerics v
  current := scaleI c.numerics i
  power := mulNum c.numerics (scaleV c.numerics v) (scaleI c.numerics i)
  timestamp := now
  alert := geNum c.numerics (scaleI c.numerics i) c.threshold

/-- The state after CONVERT: the slot written, the frame consumed, phase REPORT (R24, R248, R249). -/
def published (v i : U16) (s : State) : State :=
  ((s.setRegframeValid false).setSnap (snapOf s.cfg v i s.now)).setMstPhase .report

/-- CONVERT goes on exactly with a frame that has the two registers (R271, D44). -/
theorem convertPublish_next_iff {f : List U16} {s t : State} : convertPublish f s = .next t ↔
    ∃ v i, f[s.cfg.vIdx]? = some v ∧ f[s.cfg.iIdx]? = some i ∧ t = published v i s := by
  rw [convertPublish, convertFrame, frameReg, frameReg]
  cases hv : f[s.cfg.vIdx]? with
  | none => simp
  | some v =>
    cases hi : f[s.cfg.iIdx]? with
    | none => simp
    | some i =>
      constructor
      · rintro ⟨⟩
        exact ⟨v, i, rfl, rfl, rfl⟩
      · rintro ⟨_, _, ⟨⟩, ⟨⟩, rfl⟩
        rfl

theorem convertPublish_of_length {f : List U16} {s : State} (hv : s.cfg.vIdx < f.length) (hi : s.cfg.iIdx < f.length) :
    ∃ t, convertPublish f s = .next t :=
  ⟨_, convertPublish_next_iff.2 ⟨f[s.cfg.vIdx], f[s.cfg.iIdx], List.getElem?_eq_getElem hv, List.getElem?_eq_getElem hi, rfl⟩⟩

/-! ### After the poll -/

/-- What follows a poll writes the slot and consumes the frame on success only; the poll's code waits for the report (R248 to
R250; log 21). -/
theorem afterPoll_writes {r : PollResult} {s u : State} (h : afterPoll r s = .next u) : ∃ mst snap valid,
    u = { s with mst := mst, snap := snap, regframeValid := valid } ∧ mst.result = pollCode r ∧
    (∀ e, r = .err e → snap = s.snap) ∧
    ∀ f, r = .ok f → valid = false ∧ ∃ v i, f[s.cfg.vIdx]? = some v ∧ f[s.cfg.iIdx]? = some i ∧
      snap = snapOf s.cfg v i s.now := by
  cases r with
  | err e =>
    cases h
    exact ⟨_, s.snap, s.regframeValid, rfl, rfl, fun _ _ => rfl, nofun⟩
  | ok f =>
    obtain ⟨v, i, hv, hi, rfl⟩ := (convertPublish_next_iff (s := endPoll (.ok f) s)).1 h
    refine ⟨_, _, _, rfl, rfl, nofun, ?_⟩
    rintro _ ⟨⟩
    exact ⟨rfl, v, i, hv, hi, rfl⟩

theorem afterPoll_completes {r : PollResult} {s : State}
    (h : ∀ f, r = .ok f → s.cfg.vIdx < f.length ∧ s.cfg.iIdx < f.length) : ∃ u, afterPoll r s = .next u := by
  cases r with
  | err e => exact ⟨_, rfl⟩
  | ok f =>
    obtain ⟨hv, hi⟩ := h f rfl
    exact convertPublish_of_length (s := endPoll (.ok f) s) hv hi

/-! ### MST.CYCLE -/

theorem exec_mstCycle_next_iff {s t : State} : exec .mstCycle s = .next t ↔
    ∃ u, afterPoll (configuredPoll (awaitInterval s)).2 (configuredPoll (awaitInterval s)).1 = .next u ∧
      t = (reportPoll u).setRes .none := by
  change execMstCycle s = _ ↔ _
  rw [execMstCycle]
  generalize configuredPoll (awaitInterval s) = p
  cases afterPoll p.2 p.1 with
  | next u => simp [eq_comm]
  | fault e => simp
  | refused e => simp

/-- Waiting for the interval does not touch the request. -/
theorem awaitInterval_tx (s : State) : (awaitInterval s).tx = s.tx := by
  rw [awaitInterval]
  dsimp only
  rw [setMst_tx, idlePass_tx]
  exact (drain_frame (s.setMstPhase .wait)).tx

/-- The poll of a cycle is the configured one (R248). -/
theorem cyclePoll_ends (s : State) : PollEnds s.cfg.slaveId s.cfg.startReg (countOperand s.cfg) (awaitInterval s)
    (configuredPoll (awaitInterval s)).1 (configuredPoll (awaitInterval s)).2 := by
  rw [configuredPoll, (awaitInterval_frame s).cfg]
  exact poll_ends s.cfg.slaveId s.cfg.startReg (countOperand s.cfg) (awaitInterval s)

/-- What a cycle leaves, its poll having given `r` (R248 to R252). -/
structure CycleEnds (s t : State) (r : PollResult) : Prop where
  phase : t.mst.phase = .wait
  pollDone : t.pollDone = true
  pollStatus : t.pollStatus = pollCode r
  res : t.res = .none
  cfg : t.cfg = s.cfg
  ui : uiSide t = uiSide s
  request : t.tx = Memory.writeN s.tx 0 (requestBytes s.cfg.slaveId s.cfg.startReg (countOperand s.cfg))
  failure : ∀ e, r = .err e → t.snap = s.snap
  success : ∀ f, r = .ok f → t.regframeValid = false ∧ ∃ v i, t.regframe[s.cfg.vIdx]? = some v ∧
    t.regframe[s.cfg.iIdx]? = some i ∧ t.snap = snapOf s.cfg v i t.now

theorem mstCycle_ends {s t : State} (h : exec .mstCycle s = .next t) :
    CycleEnds s t (configuredPoll (awaitInterval s)).2 := by
  obtain ⟨u, hu, rfl⟩ := exec_mstCycle_next_iff.1 h
  have hpoll := cyclePoll_ends s
  have f := pollFrame_trans (awaitInterval_frame s) hpoll.toPollFrame
  have htx := awaitInterval_tx s
  generalize configuredPoll (awaitInterval s) = p at *
  obtain ⟨mst, snap, valid, rfl, hcode, hfailure, hsuccess⟩ := afterPoll_writes hu
  refine ⟨rfl, rfl, hcode, rfl, f.cfg, f.ui, hpoll.request.trans (by rw [htx]), fun e he => (hfailure e he).trans f.snap,
    fun g hg => ?_⟩
  obtain ⟨_, hregframe, _⟩ := hpoll.success g hg
  have hconverted := hsuccess g hg
  rw [f.cfg, ← hregframe] at hconverted
  exact hconverted

theorem mstCycle_completes {s : State} (hc : CfgFacts s.cfg) : ∃ t, exec .mstCycle s = .next t := by
  have hpoll := cyclePoll_ends s
  have hcfg := (pollFrame_trans (awaitInterval_frame s) hpoll.toPollFrame).cfg
  obtain ⟨u, hu⟩ := afterPoll_completes (r := (configuredPoll (awaitInterval s)).2)
    (s := (configuredPoll (awaitInterval s)).1) fun f hf => by
      obtain ⟨hlength, _⟩ := hpoll.success f hf
      rw [hcfg, hlength, countOperand_toNat hc]
      exact ⟨hc.vIdx, hc.iIdx⟩
  exact ⟨_, exec_mstCycle_next_iff.2 ⟨u, hu, rfl⟩⟩

/-- Settles O45: the frame of the configured poll has the two registers, so that the cycle goes on to its report. -/
theorem cycleCompletes : Obligations.CycleCompletes := by
  intro s hwf
  obtain ⟨t, ht⟩ := mstCycle_completes ((cfgWf_iff s.cfg).1 hwf)
  have h := mstCycle_ends ht
  obtain ⟨hrequest, hother⟩ := read_request h.request
  generalize (configuredPoll (awaitInterval s)).2 = r at *
  refine ⟨t, ht, h.phase, h.pollDone, h.res, h.cfg, h.ui, hrequest, hother, ?_, ?_⟩
  · rintro _ rfl
    rw [h.pollStatus]
    refine ⟨?_, ?_, ?_⟩
    · rintro ⟨f, rfl⟩
      rfl
    · rintro rfl
      rfl
    · rintro rfl
      rfl
  · rw [h.pollStatus]
    cases r with
    | ok f => exact .inl ⟨rfl, h.success f rfl⟩
    | err e =>
      refine .inr ⟨?_, h.failure e rfl⟩
      cases e with
      | unreachable => exact .inl rfl
      | protocolFault => exact .inr rfl

end Sys2Proof.Proofs
end

section
/-! SUPPORT. The phases of the block's own cycle: which move publishes, which one reports, and when each phase ends
(43_modbus_master.md R242 to R252; log 11, log 21, log 38). -/

namespace Sys2Proof.Proofs

open Sys2Proof.Machine Sys2Proof.Laws

/-! ### The moves -/

section
variable {s : State}

theorem pollMove_wait (h : s.mst.phase = .wait) :
    pollMove s = if s.cfg.pollInterval ≤ s.mst.intervalCnt then some (.next (startCycle s)) else none := by rw [pollMove, h]

theorem pollMove_encode (h : s.mst.phase = .encode) : pollMove s = some (.next (encodeMove s)) := by rw [pollMove, h]

theorem pollMove_decode (h : s.mst.phase = .decode) : pollMove s = some (decodeMove s) := by rw [pollMove, h]

theorem pollMove_backoff (h : s.mst.phase = .backoff) : pollMove s =
    if s.cfg.backoff ≤ s.mst.backoffCnt then some (.next (beginAttempt (returnFromError s))) else none := by rw [pollMove, h]

theorem pollMove_convert (h : s.mst.phase = .convert) : pollMove s = some (convertMove s) := by rw [pollMove, h]

theorem pollMove_report (h : s.mst.phase = .report) : pollMove s = some (.next (reportPoll s)) := by rw [pollMove, h]

theorem transactMove_done (h : s.tr.phase = .done) :
    transactMove s = if s.mst.held = true then none else some (takeResult s) := by rw [transactMove, h]

/-! ### The end of an attempt (R202, R242, R244) -/

theorem takeResult_of_ok {bytes : List Byte} (h : rxOperand s = some bytes) {bs : List Byte}
    (hr : transportResult s.tr.ioErr bytes = .ok bs) : takeResult s = .next (s.setMstPhase .decode) := by
  rw [takeResult, h]
  dsimp only
  rw [hr]

theorem takeResult_of_err {bytes : List Byte} (h : rxOperand s = some bytes) {e : TransportError}
    (hr : transportResult s.tr.ioErr bytes = .err e) : takeResult s = .next (afterAttempt (.transport e) s) := by
  rw [takeResult, h]
  dsimp only
  rw [hr]

theorem decodeMove_of_some {bytes : List Byte} (h : rxOperand s = some bytes) : decodeMove s =
    .next (afterAttempt (.decoded (decodeResponse bytes s.cfg.slaveId (countOperand s.cfg)))
      (decodeInto bytes s.cfg.slaveId (countOperand s.cfg) s).1) := by
  rw [decodeMove, h]
  dsimp only
  rw [decodeInto_result]

/-- A move that takes a result needs the bytes received (R64). -/
theorem takeResult_next {t : State} (h : takeResult s = .next t) :
    t = s.setMstPhase .decode ∨ ∃ e, t = afterAttempt (.transport e) s := by
  cases hrx : rxOperand s with
  | none => rw [takeResult, hrx] at h; cases h
  | some bytes =>
    cases hr : transportResult s.tr.ioErr bytes with
    | ok bs => rw [takeResult_of_ok hrx hr] at h; cases h; exact .inl rfl
    | err e => rw [takeResult_of_err hrx hr] at h; cases h; exact .inr ⟨e, rfl⟩

theorem decodeMove_next {t : State} (h : decodeMove s = .next t) : ∃ bytes, rxOperand s = some bytes ∧
    t = afterAttempt (.decoded (decodeResponse bytes s.cfg.slaveId (countOperand s.cfg)))
      (decodeInto bytes s.cfg.slaveId (countOperand s.cfg) s).1 := by
  cases hrx : rxOperand s with
  | none => rw [decodeMove, hrx] at h; cases h
  | some bytes => rw [decodeMove_of_some hrx] at h; cases h; exact ⟨bytes, rfl, rfl⟩

/-- What the choice of R242 after an attempt can be. -/
theorem afterAttempt_cases (o : AttemptResult) (s : State) :
    (∃ f, verdict o = .success f ∧ afterAttempt o s = endPoll (.ok f) s) ∨
    (verdict o = .reject ∧ afterAttempt o s = endPoll (.err .protocolFault) s) ∨
    (verdict o = .retry ∧ s.mst.attempt < s.cfg.retryCount ∧ afterAttempt o s = takeError s) ∨
    (verdict o = .retry ∧ s.cfg.retryCount ≤ s.mst.attempt ∧ afterAttempt o s = endPoll (.err .unreachable) s) := by
  rw [afterAttempt]
  cases hv : verdict o with
  | success f => exact .inl ⟨f, rfl, rfl⟩
  | reject => exact .inr (.inl ⟨rfl, rfl⟩)
  | retry =>
    by_cases hleft : s.mst.attempt < s.cfg.retryCount
    · exact .inr (.inr (.inl ⟨rfl, hleft, if_pos hleft⟩))
    · exact .inr (.inr (.inr ⟨rfl, Nat.not_lt.1 hleft, if_neg hleft⟩))

/-- A poll that fails with this attempt goes to REPORT with its code (R250, R352). -/
theorem afterAttempt_report {o : AttemptResult} (h : (afterAttempt o s).mst.phase = .report) :
    verdict o = .reject ∧ (afterAttempt o s).mst.result = 2 ∨ verdict o = .retry ∧ (afterAttempt o s).mst.result = 1 := by
  rcases afterAttempt_cases o s with ⟨f, _, e⟩ | ⟨hv, e⟩ | ⟨_, _, e⟩ | ⟨hv, _, e⟩ <;> rw [e] at h ⊢
  · cases h
  · exact .inl ⟨hv, rfl⟩
  · cases h
  · exact .inr ⟨hv, rfl⟩

/-- A poll that succeeds with this attempt goes to CONVERT (R248). -/
theorem afterAttempt_convert {o : AttemptResult} (h : (afterAttempt o s).mst.phase = .convert) :
    ∃ f, verdict o = .success f ∧ afterAttempt o s = endPoll (.ok f) s := by
  rcases afterAttempt_cases o s with ⟨f, hv, e⟩ | ⟨_, e⟩ | ⟨_, _, e⟩ | ⟨_, _, e⟩
  · exact ⟨f, hv, e⟩
  all_goals
    rw [e] at h
    cases h

/-- An attempt whose outcome is retried counts one more, or ends the poll (R243, R244). -/
theorem afterAttempt_of_retry {o : AttemptResult} (h : verdict o = .retry) (s : State) :
    (s.mst.attempt < s.cfg.retryCount → (afterAttempt o s).mst.phase = .backoff ∧
      (afterAttempt o s).mst.attempt = s.mst.attempt + 1 ∧ (afterAttempt o s).mst.backoffCnt = 0) ∧
    (s.cfg.retryCount ≤ s.mst.attempt → (afterAttempt o s).mst.phase = .report) := by
  rw [afterAttempt, h]
  dsimp only
  refine ⟨fun hleft => ?_, fun hnone => ?_⟩
  · rw [if_pos hleft]
    exact ⟨rfl, rfl, rfl⟩
  · rw [if_neg (Nat.not_lt.2 hnone)]
    rfl

/-! ### The beginning of an attempt (R191, R242) -/

theorem beginAttempt_master (s : State) : (beginAttempt s).mst.phase = s.mst.phase ∧
    (beginAttempt s).mst.attempt = s.mst.attempt ∧ (beginAttempt s).tx = s.tx ∧ (beginAttempt s).pollDone = s.pollDone := by
  rcases beginAttempt_cases s with ⟨_, e⟩ | ⟨_, e⟩ <;> rw [e] <;> exact ⟨rfl, rfl, rfl, rfl⟩

theorem beginAttempt_gap (h : s.tr.phase ≠ .done) : (beginAttempt s).tr.phase = .gap := by
  rw [beginAttempt, if_neg h]
  rfl

theorem beginAttempt_held (h : s.tr.phase = .done) :
    (beginAttempt s).tr.phase = .done ∧ (beginAttempt s).mst.held = true := by
  rw [beginAttempt, if_pos h]
  exact ⟨h, rfl⟩

/-- Phase ENCODE with its request in `TX`, before the first attempt begins (R160, R242). -/
def encoded (s : State) : State := (encodeRequest s.cfg.slaveId s.cfg.startReg (countOperand s.cfg) s).setMst
  { s.mst with phase := .transact, attempt := 0 }

theorem encodeMove_eq (s : State) : encodeMove s = beginAttempt (encoded s) := rfl

/-! ### What a move publishes -/

/-- The slot and the report are as before. -/
structure OutputsKept (s t : State) : Prop where
  snap : t.snap = s.snap
  pollStatus : t.pollStatus = s.pollStatus
  pollDone : t.pollDone = s.pollDone

theorem afterAttempt_outputs (o : AttemptResult) (s : State) : OutputsKept s (afterAttempt o s) := by
  rcases afterAttempt_cases o s with ⟨_, _, e⟩ | ⟨_, e⟩ | ⟨_, _, e⟩ | ⟨_, _, e⟩ <;> rw [e] <;> exact ⟨rfl, rfl, rfl⟩

/-- A move of the poll agent between the beginning of a cycle and the end of its poll: it publishes and reports nothing; on the way
to REPORT or CONVERT it leaves the poll's code (R248, R250; log 21). -/
structure PollsOn (s t : State) : Prop where
  outputs : OutputsKept s t
  toReport : t.mst.phase = .report → s.mst.phase = .transact ∧ t.mst.result = 1 ∨
    s.mst.phase = .decode ∧ ∃ bytes, rxOperand s = some bytes ∧
      (verdict (.decoded (decodeResponse bytes s.cfg.slaveId (countOperand s.cfg))) = .reject ∧ t.mst.result = 2 ∨
        verdict (.decoded (decodeResponse bytes s.cfg.slaveId (countOperand s.cfg))) = .retry ∧ t.mst.result = 1)
  toConvert : t.mst.phase = .convert → t.mst.result = 0 ∧ t.regframeValid = true

theorem pollsOn_of_phase {t : State} (h : OutputsKept s t) {p : MstPhase} (hp : t.mst.phase = p) (hreport : p ≠ .report)
    (hconvert : p ≠ .convert) : PollsOn s t :=
  ⟨h, fun e => absurd (hp.symm.trans e) hreport, fun e => absurd (hp.symm.trans e) hconvert⟩

theorem beginAttempt_pollsOn {u : State} (h : OutputsKept s u) (hp : u.mst.phase = .transact) : PollsOn s (beginAttempt u) := by
  obtain ⟨hphase, _, _, hdone⟩ := beginAttempt_master u
  have f := beginAttempt_frame u
  exact pollsOn_of_phase ⟨f.snap.trans h.snap, f.pollStatus.trans h.pollStatus, hdone.trans h.pollDone⟩ (hphase.trans hp)
    nofun nofun

theorem handByte_kept (d : Byte) (s : State) : OutputsKept s (handByte d s) ∧ (handByte d s).mst = s.mst := by
  have f := loadChar_frame d s
  have hdone : (loadChar d s).pollDone = s.pollDone := by simp [loadChar]
  have hmst := loadChar_mst d s
  rw [handByte]
  generalize loadChar d s = w at *
  dsimp only
  split <;> exact ⟨⟨f.snap, f.pollStatus, hdone⟩, hmst⟩

/-- An error of the Transport ends the attempt, and the poll if no retry is left (R202, R244). -/
theorem takeResult_pollsOn {t : State} (hp : s.mst.phase = .transact) (h : takeResult s = .next t) : PollsOn s t := by
  rcases takeResult_next h with rfl | ⟨e, rfl⟩
  · exact pollsOn_of_phase ⟨rfl, rfl, rfl⟩ rfl nofun nofun
  · have hv := verdict_transport e
    refine ⟨afterAttempt_outputs _ s, fun hreport => .inl ⟨hp, ?_⟩, fun hconvert => ?_⟩
    · rcases afterAttempt_report hreport with ⟨hreject, _⟩ | ⟨_, hcode⟩
      · rw [hv] at hreject
        cases hreject
      · exact hcode
    · obtain ⟨f, hsuccess, _⟩ := afterAttempt_convert hconvert
      rw [hv] at hsuccess
      cases hsuccess

/-- The moves of a transaction under way leave the master where it is (R191). -/
theorem transactMove_pollsOn {t : State} (hp : s.mst.phase = .transact) (h : transactMove s = some (.next t)) :
    PollsOn s t := by
  have stays {t : State} (ht : OutputsKept s t) (hmst : t.mst.phase = s.mst.phase) : PollsOn s t :=
    pollsOn_of_phase ht (hmst.trans hp) nofun nofun
  rcases transactMove_cases s h with ⟨_, ⟨⟩⟩ | ⟨_, _, ⟨⟩⟩ | ⟨_, _, _, ⟨⟩⟩ | ⟨d, _, _, _, _, ⟨⟩⟩ | ⟨_, _, _, _, ⟨⟩⟩ |
    ⟨_, _, ⟨⟩⟩ | ⟨_, _, ⟨⟩⟩ | ⟨_, _, e⟩
  · exact stays ⟨rfl, rfl, rfl⟩ rfl
  · exact stays ⟨rfl, rfl, rfl⟩ rfl
  · exact stays ⟨rfl, rfl, rfl⟩ rfl
  · obtain ⟨hkept, hmst⟩ := handByte_kept d s
    exact stays hkept (congrArg Mst.phase hmst)
  · exact stays ⟨rfl, rfl, rfl⟩ rfl
  · exact stays ⟨rfl, rfl, rfl⟩ rfl
  · exact takeResult_pollsOn hp e.symm

theorem decodeMove_pollsOn {t : State} (hp : s.mst.phase = .decode) (h : decodeMove s = .next t) : PollsOn s t := by
  obtain ⟨bytes, hrx, rfl⟩ := decodeMove_next h
  have f := decodeInto_frame bytes s.cfg.slaveId (countOperand s.cfg) s
  obtain ⟨crc, frame, valid, e⟩ := decodeInto_eq bytes s.cfg.slaveId (countOperand s.cfg) s
  obtain ⟨hsnap, hstatus, hdone⟩ := afterAttempt_outputs
    (.decoded (decodeResponse bytes s.cfg.slaveId (countOperand s.cfg)))
    (decodeInto bytes s.cfg.slaveId (countOperand s.cfg) s).1
  refine ⟨⟨hsnap.trans f.snap, hstatus.trans f.pollStatus, hdone.trans (by rw [e])⟩,
    fun hreport => .inr ⟨hp, bytes, hrx, afterAttempt_report hreport⟩, fun hconvert => ?_⟩
  obtain ⟨g, hsuccess, hend⟩ := afterAttempt_convert hconvert
  have hok := verdict_success hsuccess
  rw [hend, decodeInto_of_ok (AttemptResult.decoded.inj hok)]
  exact ⟨rfl, rfl⟩

/-- Of the moves that neither convert nor report. -/
theorem pollMove_pollsOn {t : State} (h : pollMove s = some (.next t)) (hconvert : s.mst.phase ≠ .convert)
    (hreport : s.mst.phase ≠ .report) : PollsOn s t := by
  rcases pollMove_cases s h with ⟨_, _, ⟨⟩⟩ | ⟨_, ⟨⟩⟩ | ⟨hp, ht⟩ | ⟨hp, ht⟩ | ⟨_, _, ⟨⟩⟩ | ⟨hp, _⟩ | ⟨hp, _⟩
  · exact pollsOn_of_phase ⟨rfl, rfl, rfl⟩ rfl nofun nofun
  · rw [encodeMove_eq]
    exact beginAttempt_pollsOn ⟨rfl, rfl, rfl⟩ rfl
  · exact transactMove_pollsOn hp ht
  · exact decodeMove_pollsOn hp ht.symm
  · exact beginAttempt_pollsOn ⟨rfl, rfl, rfl⟩ rfl
  · exact absurd hp hconvert
  · exact absurd hp hreport

/-- CONVERT consumes a frame that is there (R24, R64). -/
theorem convertMove_of_valid (h : s.regframeValid = true) : convertMove s = convertPublish s.regframe s := by
  rw [convertMove, frameOperand, if_pos h]

theorem convertMove_next {t : State} (h : convertMove s = .next t) : ∃ v i, s.regframe[s.cfg.vIdx]? = some v ∧
    s.regframe[s.cfg.iIdx]? = some i ∧ t = published v i s := by
  cases hvalid : s.regframeValid with
  | false => rw [convertMove, frameOperand, hvalid] at h; cases h
  | true =>
    rw [convertMove_of_valid hvalid] at h
    exact convertPublish_next_iff.1 h

end

/-! ### Ticks -/

/-- The Transport's part of a tick is none of the master's business. -/
theorem transportTick_master (before : State) (item : Option LinkItem) (s : State) :
    (transportTick before item s).mst = s.mst ∧ (transportTick before item s).pollDone = s.pollDone := by
  unfold transportTick
  split
  · exact ⟨rfl, rfl⟩
  · exact ⟨rfl, rfl⟩
  · split <;> exact ⟨rfl, rfl⟩
  · unfold receptionTick
    split
    · exact ⟨rfl, rfl⟩
    · dsimp only
      split <;> exact ⟨rfl, rfl⟩
  all_goals exact ⟨rfl, rfl⟩

/-- A tick counts for the master, and ends the pulse (R28, R252). -/
theorem tick_master (s : State) : (tick s).mst = masterTick s.cfg s.mst ∧ (tick s).pollDone = false := by
  obtain ⟨hmst, hdone⟩ := transportTick_master s (urxTick s.cfg (rxdPort s) s.urx).2 (countedTick (rxdPort s) s)
  rw [tick, setUi_mst, setUi_pollDone, tickWith_eq, hmst, hdone, countedTick_mst]
  exact ⟨rfl, rfl⟩

/-! ### The parts of the statement -/

/-- A presented cycle that does not report success has published nothing (R250). -/
theorem mstCycle_failed_snap {s t : State} (h : exec .mstCycle s = .next t) (hcode : t.pollStatus ≠ 0) : t.snap = s.snap := by
  have hend := mstCycle_ends h
  generalize (configuredPoll (awaitInterval s)).2 = r at *
  cases r with
  | ok f => exact absurd hend.pollStatus hcode
  | err e => exact hend.failure e rfl

/-- ENCODE: the request, attempt 0, the beginning of its transaction (R160, R242). -/
theorem encodeMove_spec (s : State) : (encodeMove s).mst.phase = .transact ∧ (encodeMove s).mst.attempt = 0 ∧
    (∀ k, k < 8 → Memory.read (encodeMove s).tx k = (requestBytes s.cfg.slaveId s.cfg.startReg (countOperand s.cfg))[k]?) ∧
    (s.tr.phase ≠ .done → (encodeMove s).tr.phase = .gap) ∧
    (s.tr.phase = .done → (encodeMove s).tr.phase = .done ∧ (encodeMove s).mst.held = true) := by
  obtain ⟨hphase, hattempt, htx, _⟩ := beginAttempt_master (encoded s)
  rw [encodeMove_eq]
  exact ⟨hphase, hattempt, (read_request (m := s.tx) htx).1, beginAttempt_gap (s := encoded s),
    beginAttempt_held (s := encoded s)⟩

/-- BACKOFF ends with the next attempt, which sends the same request (R245). -/
theorem backoffMove_spec (s : State) : (beginAttempt (returnFromError s)).mst.phase = .transact ∧
    (beginAttempt (returnFromError s)).mst.attempt = s.mst.attempt ∧ (beginAttempt (returnFromError s)).tx = s.tx ∧
    (s.tr.phase ≠ .done → (beginAttempt (returnFromError s)).tr.phase = .gap) ∧
    (s.tr.phase = .done → (beginAttempt (returnFromError s)).tr.phase = .done ∧
      (beginAttempt (returnFromError s)).mst.held = true) := by
  obtain ⟨hphase, hattempt, htx, _⟩ := beginAttempt_master (returnFromError s)
  exact ⟨hphase, hattempt, htx, beginAttempt_gap (s := returnFromError s), beginAttempt_held (s := returnFromError s)⟩

/-- A transaction in error, or without a byte, gives an error (R202). -/
theorem transportResult_failed {ioErr : Bool} {bytes : List Byte} (h : ioErr = true ∨ bytes = []) :
    ∃ e, transportResult ioErr bytes = .err e := by
  rw [transportResult_eq]
  cases ioErr with
  | true => exact ⟨.ioFailure, rfl⟩
  | false =>
    rcases h with h | h
    · cases h
    · exact ⟨.timeout, if_pos h⟩

/-- DONE: with bytes to DECODE, otherwise on as R244 says (R202, R242). -/
theorem takeResult_spec {s : State} {bytes : List Byte} (hrx : rxOperand s = some bytes) : ∃ t, takeResult s = .next t ∧
    (s.tr.ioErr = false → bytes ≠ [] → t.mst.phase = .decode ∧ t.mst.attempt = s.mst.attempt) ∧
    (s.tr.ioErr = true ∨ bytes = [] →
      (s.mst.attempt < s.cfg.retryCount →
        t.mst.phase = .backoff ∧ t.mst.attempt = s.mst.attempt + 1 ∧ t.mst.backoffCnt = 0) ∧
      (s.cfg.retryCount ≤ s.mst.attempt → t.mst.phase = .report)) := by
  by_cases hfailed : s.tr.ioErr = true ∨ bytes = []
  · obtain ⟨e, he⟩ := transportResult_failed hfailed
    refine ⟨_, takeResult_of_err hrx he, fun hio hne => ?_, fun _ => afterAttempt_of_retry (verdict_transport e) s⟩
    rcases hfailed with h | h
    · rw [hio] at h
      cases h
    · exact absurd h hne
  · obtain ⟨hio, hne⟩ := not_or.1 hfailed
    have hok := transportResult_of_bytes hne
    rw [← Bool.eq_false_iff.2 hio] at hok
    exact ⟨_, takeResult_of_ok hrx hok, fun _ _ => ⟨rfl, rfl⟩, fun h => absurd h hfailed⟩

/-- DECODE: with a frame to CONVERT, otherwise on as R244 says (R242). -/
theorem decodeMove_spec {s : State} {bytes : List Byte} (hrx : rxOperand s = some bytes) {d : DecodeResult}
    (hd : d = decodeResponse bytes s.cfg.slaveId (countOperand s.cfg)) : ∃ t, decodeMove s = .next t ∧
    (∀ f, d = .ok f → t.mst.phase = .convert ∧ t.regframe = f ∧ t.regframeValid = true) ∧
    (verdict (.decoded d) = .reject → t.mst.phase = .report) ∧
    (verdict (.decoded d) = .retry →
      (s.mst.attempt < s.cfg.retryCount →
        t.mst.phase = .backoff ∧ t.mst.attempt = s.mst.attempt + 1 ∧ t.mst.backoffCnt = 0) ∧
      (s.cfg.retryCount ≤ s.mst.attempt → t.mst.phase = .report)) := by
  subst hd
  refine ⟨_, decodeMove_of_some hrx, fun f hf => ?_, fun hv => ?_, fun hv => ?_⟩
  · rw [hf, decodeInto_of_ok hf]
    exact ⟨rfl, rfl, rfl⟩
  · rw [afterAttempt, hv]
    rfl
  · obtain ⟨crc, frame, valid, e⟩ := decodeInto_eq bytes s.cfg.slaveId (countOperand s.cfg) s
    rw [e]
    exact afterAttempt_of_retry hv { s with crc := crc, regframe := frame, regframeValid := valid }

/-- Settles O46: CONVERT and REPORT are the only moves that publish and report; the other moves, phase by phase, go where the rule
of their phase says. -/
theorem failedCycleKeepsTheSnapshot : Obligations.FailedCycleKeepsTheSnapshot := by
  refine ⟨fun s t => mstCycle_failed_snap, fun s t h => ?published, fun s => ?ticks, fun s =>
    ⟨fun hp => ?wait, fun hp => ⟨_, pollMove_encode hp, encodeMove_spec s⟩, fun hp hdone => ?transact,
      fun hp bytes d hrx hd => ?decode, fun hp => ?backoff, fun hp hvalid hv hi => ?convert,
      fun hp => ⟨_, pollMove_report hp⟩⟩⟩
  case published =>
    by_cases hconvert : s.mst.phase = .convert
    · rw [pollMove_convert hconvert] at h
      obtain ⟨v, i, hv, hi, rfl⟩ := convertMove_next (Option.some.inj h)
      rw [hconvert]
      exact ⟨fun hne => absurd rfl hne, fun _ => ⟨rfl, rfl, rfl, v, i, hv, hi, rfl⟩, fun _ => ⟨rfl, rfl⟩, nofun,
        fun hne => absurd rfl hne, nofun, nofun, nofun⟩
    · by_cases hreport : s.mst.phase = .report
      · rw [pollMove_report hreport] at h
        cases h
        rw [hreport]
        exact ⟨fun _ => rfl, nofun, fun hne => absurd rfl hne, fun _ => ⟨rfl, rfl, rfl⟩, nofun, nofun, nofun, nofun⟩
      · obtain ⟨⟨hsnap, hstatus, hdone⟩, htoReport, htoConvert⟩ := pollMove_pollsOn h hconvert hreport
        refine ⟨fun _ => hsnap, fun hp => absurd hp hconvert, fun _ => ⟨hstatus, hdone⟩, fun hp => absurd hp hreport,
          fun _ ht => (htoReport ht).imp And.left And.left, fun hp ht => ?_, fun hp ht => ?_, htoConvert⟩
        · rcases htoReport ht with ⟨_, hcode⟩ | ⟨hp', _⟩
          · exact hcode
          · exact absurd (hp.symm.trans hp') nofun
        · rcases htoReport ht with ⟨hp', _⟩ | ⟨_, bytes, hrx, hcode⟩
          · exact absurd (hp.symm.trans hp') nofun
          · exact ⟨bytes, _, hrx, rfl, hcode⟩
  case ticks =>
    have f := tickWith_frame (rxdPort s) s
    obtain ⟨hmst, hdone⟩ := tick_master s
    rw [hmst]
    exact ⟨hdone, f.snap, f.pollStatus, rfl, fun hp => if_pos hp⟩
  case wait =>
    rw [pollMove_wait hp]
    exact ⟨fun hlt => if_neg (Nat.not_le.2 hlt), fun hle => if_pos hle⟩
  case transact =>
    rw [pollMove_transact hp, transactMove_done hdone]
    refine ⟨fun hheld => if_pos hheld, fun bytes hfree hrx => ?_⟩
    obtain ⟨t, ht, hspec⟩ := takeResult_spec hrx
    exact ⟨t, by rw [hfree, if_neg Bool.false_ne_true, ht], hspec⟩
  case decode =>
    obtain ⟨t, ht, hspec⟩ := decodeMove_spec hrx hd
    exact ⟨t, by rw [pollMove_decode hp, ht], hspec⟩
  case backoff =>
    rw [pollMove_backoff hp]
    exact ⟨fun hlt => if_neg (Nat.not_le.2 hlt), fun hle => ⟨_, if_pos hle, backoffMove_spec s⟩⟩
  case convert =>
    obtain ⟨t, ht⟩ := convertPublish_of_length hv hi
    exact ⟨t, by rw [pollMove_convert hp, convertMove_of_valid hvalid, ht]⟩

end Sys2Proof.Proofs
end

section
/-! SUPPORT. The sample pipeline: SP.CONVERT on the frame, and what SP.PUBLISH shows at the next ui tick (44_sample_pipeline.md
R271 to R276; 46_display_fsm.md R322 to R327). -/

namespace Sys2Proof.Proofs

open Sys2Proof.Machine Sys2Proof.Laws

/-! ### The conversion of a frame -/

theorem convertFrame_of_registers {c : Cfg} {f : List U16} {v i : U16} (hv : f[c.vIdx]? = some v) (hi : f[c.iIdx]? = some i)
    (now : BitVec 64) : convertFrame c f now = some (measurementOf c v i now, alertOf c (scaleI c.numerics i)) := by
  obtain ⟨hvlt, rfl⟩ := List.getElem?_eq_some_iff.1 hv
  obtain ⟨hilt, rfl⟩ := List.getElem?_eq_some_iff.1 hi
  exact convertFrame_spec hvlt hilt now

theorem convertFrame_of_missing {c : Cfg} {f : List U16} (h : f[c.vIdx]? = none ∨ f[c.iIdx]? = none) (now : BitVec 64) :
    convertFrame c f now = none := by
  rw [convertFrame, frameReg, frameReg]
  rcases h with hv | hi
  · rw [hv]
  · rw [hi]
    cases f[c.vIdx]? <;> rfl

/-! ### SP.CONVERT -/

theorem exec_spConvert (f : FrameRef) (s : State) : exec (.spConvert f) s = execSpConvert f s := rfl

section
variable {s : State}

/-- A frame that converts is consumed, and its Measurement and Alert State are the result (R24, R271). -/
theorem exec_spConvert_of_some {m : Measurement} {alert : Bool} (hvalid : s.regframeValid = true)
    (h : convertFrame s.cfg s.regframe s.now = some (m, alert)) :
    exec (.spConvert .regframe) s = .next ((s.setRegframeValid false).setRes (.measurement m alert)) := by
  rw [exec_spConvert, execSpConvert, frameOperand, if_pos hvalid]
  simp only [h]

/-- While `regframe_valid` = 0 the frame holds no value (R64). -/
theorem exec_spConvert_of_invalid (hvalid : s.regframeValid = false) :
    exec (.spConvert .regframe) s = .fault (.noValue .regframe) := by
  rw [exec_spConvert, execSpConvert, frameOperand, if_neg (Bool.eq_false_iff.1 hvalid)]

/-- A register beyond the frame's length holds no value, valid frame or not (R64). -/
theorem exec_spConvert_of_none (h : convertFrame s.cfg s.regframe s.now = none) :
    exec (.spConvert .regframe) s = .fault (.noValue .regframe) := by
  cases hvalid : s.regframeValid with
  | false => exact exec_spConvert_of_invalid hvalid
  | true =>
    rw [exec_spConvert, execSpConvert, frameOperand, if_pos hvalid]
    simp only [h]

end

/-! ### Exact rationals (R270) -/

theorem scaleV_exact (kv ki : Rat) (r : U16) : scaleV (.exact kv ki) r = .rational (r.toNat * kv) := rfl

theorem scaleI_exact (kv ki : Rat) (r : U16) : scaleI (.exact kv ki) r = .rational (r.toNat * ki) := rfl

theorem mulNum_exact (kv ki x y : Rat) : mulNum (.exact kv ki) (.rational x) (.rational y) = .rational (x * y) := rfl

theorem geNum_exact_iff (kv ki x y : Rat) : geNum (.exact kv ki) (.rational x) (.rational y) = true ↔ y ≤ x :=
  decide_eq_true_iff

/-- Settles O47: a valid frame with the two registers converts; each of the three ways in which an element is missing is a fault. -/
theorem convertMeasures : Obligations.ConvertMeasures := by
  refine fun s => ⟨fun v i hvalid hv hi =>
    ⟨exec_spConvert_of_some hvalid (convertFrame_of_registers hv hi s.now), fun kv ki th hnum hth => ?exact⟩, fun h => ?missing⟩
  case exact =>
    rw [hnum, hth, scaleV_exact, scaleI_exact, mulNum_exact]
    exact ⟨rfl, rfl, rfl, geNum_exact_iff kv ki _ th⟩
  case missing =>
    rcases h with hinvalid | hregister
    · exact exec_spConvert_of_invalid hinvalid
    · exact exec_spConvert_of_none (convertFrame_of_missing hregister s.now)

/-! ### SP.PUBLISH and the ui tick -/

theorem exec_spPublish (m : Measurement) (alert : Bool) (s : State) :
    exec (.spPublish m alert) s = .next ((publish m alert s).setRes .none) := rfl

theorem exec_uiTick (raw : List Bool) (s : State) : exec (.uiTick raw) s = .next ((uiTick raw s).setRes .none) := rfl

/-- A ui tick shows the Measurement of the slot, whatever the buttons do (R322, R327). -/
theorem uiTick_meas (raw : List Bool) (s : State) : (uiTick raw s).out.meas = intentMeasurement s.snap := by
  rw [uiTick_eq]

/-- A ui tick runs the blink timer on the slot's Alert State (R310, R323). -/
theorem uiTick_blink (raw : List Bool) (s : State) : (uiTick raw s).blink = blinkTick s.cfg s.snap.alert s.blink := by
  rw [uiTick_eq]

/-- The blink output is the flag the blink timer leaves (R327). -/
theorem uiTick_blinkOut (raw : List Bool) (s : State) :
    (uiTick raw s).out.blink = (blinkTick s.cfg s.snap.alert s.blink).visible := by
  rw [uiTick_eq]

theorem intentMeasurement_publish (m : Measurement) (alert : Bool) (s : State) :
    intentMeasurement (publish m alert s).snap = some m := rfl

/-- Without an alert the blink flag is at rest (R325). -/
theorem blinkTick_visible_of_noAlert (c : Cfg) (b : Blink) : (blinkTick c false b).visible = c.blinkIdle := rfl

/-- The blink timer is armed exactly while there is an alert (R323, R324). -/
theorem blinkTick_armed (c : Cfg) (a : Bool) (b : Blink) : (blinkTick c a b).armed = a := by
  rcases blinkTick_cases c a b with ⟨ha, e⟩ | ⟨ha, _, e⟩ | ⟨ha, _, _, e⟩ | ⟨ha, _, _, e⟩ <;> rw [e, ha]

theorem runAll_spPublish_uiTick (m : Measurement) (alert : Bool) (raw : List Bool) (s : State) :
    runAll [.spPublish m alert, .uiTick raw] s =
      .next ((uiTick raw ((publish m alert s).setRes .none)).setRes .none) := by
  rw [runAll_next (exec_spPublish m alert s), runAll_next (exec_uiTick raw _), runAll]

/-- Settles O48: the ui tick reads the slot that SP.PUBLISH has just written, and nothing of the slot before. -/
theorem publishedIsShownWhole : Obligations.PublishedIsShownWhole := by
  refine fun s m alert raw => ⟨exec_spPublish m alert s, _, runAll_spPublish_uiTick m alert raw s, ?meas, ?idle, ?armed⟩
  case meas => exact (uiTick_meas raw _).trans (intentMeasurement_publish m alert s)
  case idle =>
    rintro rfl
    exact (uiTick_blinkOut raw _).trans (blinkTick_visible_of_noAlert s.cfg s.blink)
  case armed =>
    rintro rfl
    exact (congrArg Blink.armed (uiTick_blink raw _)).trans (blinkTick_armed s.cfg true s.blink)

end Sys2Proof.Proofs
end

section
/-! SUPPORT. One pin of the debouncer: DB.SAMPLE on it, its runs of equal samples, and the shift register that realises it
(45_debouncer.md R290 to R296). -/

namespace Sys2Proof.Proofs

open Sys2Proof.Machine Sys2Proof.Laws

/-! ### One sample (R292) -/

section
variable {n : Nat} {r : Bool} {p : PinState}

theorem samplePin_of_eq (h : r = p.stable) : samplePin n r p = ({ p with cnt := 0 }, false) := if_pos h

theorem samplePin_of_accepted (h : r ≠ p.stable) (hn : n ≤ p.cnt + 1) :
    samplePin n r p = ({ stable := r, cnt := 0 }, r) := by
  rw [samplePin, if_neg h, if_pos hn]

theorem samplePin_of_counted (h : r ≠ p.stable) (hn : p.cnt + 1 < n) :
    samplePin n r p = ({ p with cnt := p.cnt + 1 }, false) := by
  rw [samplePin, if_neg h, if_neg (Nat.not_le.2 hn)]

end

/-! ### One pin of the list -/

section
variable (n : Nat) {p : Nat} (r : Bool) {db : List (Nat × PinState)}

/-- A pin without an entry is not sampled (R290). -/
theorem samplePinIn_of_lookup_none (h : db.lookup p = none) : samplePinIn n p r db = (db, false) := by
  induction db with
  | nil => rfl
  | cons e db ih =>
    obtain ⟨hne, hrest⟩ := List.lookup_eq_none_iff.1 h |> List.forall_mem_cons.1
    rw [samplePinIn, if_neg fun he => bne_iff_ne.1 hne he.symm, ih (List.lookup_eq_none_iff.2 hrest)]

/-- A pin with an entry has that entry sampled, and its event is the list's (R292). -/
theorem samplePinIn_of_lookup_some {st : PinState} (h : db.lookup p = some st) :
    (samplePinIn n p r db).1.lookup p = some (samplePin n r st).1 ∧ (samplePinIn n p r db).2 = (samplePin n r st).2 := by
  induction db with
  | nil => cases h
  | cons e db ih =>
    obtain ⟨q, st'⟩ := e
    rw [samplePinIn]
    by_cases hq : q = p
    · subst hq
      rw [List.lookup_cons_self, Option.some_inj] at h
      rw [if_pos rfl, h]
      exact ⟨List.lookup_cons_self, rfl⟩
    · have hqp : (p == q) = false := beq_false_of_ne (Ne.symm hq)
      rw [List.lookup_cons, hqp] at h
      rw [if_neg hq, List.lookup_cons, hqp]
      exact ih h

/-- Sampling one pin leaves the others as they are (R292). -/
theorem samplePinIn_lookup_of_ne (db : List (Nat × PinState)) {q : Nat} (hq : q ≠ p) :
    (samplePinIn n p r db).1.lookup q = db.lookup q := by
  induction db with
  | nil => rfl
  | cons e db ih =>
    rw [samplePinIn]
    split
    case isTrue he => rw [List.lookup_cons, List.lookup_cons, he, beq_false_of_ne hq]
    case isFalse => rw [List.lookup_cons, List.lookup_cons, ih]

end

theorem exec_dbSample (p : Nat) (r : Bool) (s : State) : exec (.dbSample p r) s =
    .next { s with
      db := (samplePinIn s.cfg.debounceN p r s.db).1
      res := .event (if (samplePinIn s.cfg.debounceN p r s.db).2 then some p else none) } := rfl

/-- Settles O49: the list's entry for the pin goes through `samplePin`, whose three cases are those of R292. -/
theorem sampleFollowsTheRule : Obligations.SampleFollowsTheRule := by
  refine fun s p r => ⟨_, _, exec_dbSample p r s, rfl, fun q hq => samplePinIn_lookup_of_ne _ r s.db hq, fun hnone => ?absent,
    fun st hst => ?present⟩
  case absent =>
    rw [samplePinIn_of_lookup_none _ r hnone]
    exact ⟨rfl, rfl⟩
  case present =>
    obtain ⟨hdb, hev⟩ := samplePinIn_of_lookup_some s.cfg.debounceN r hst
    rw [hdb, hev]
    refine ⟨fun heq => ?_, fun hne hn => ?_, fun hne hn => ?_⟩
    · rw [samplePin_of_eq heq]
      exact ⟨rfl, rfl⟩
    · rw [samplePin_of_accepted hne hn]
      exact ⟨rfl, rfl⟩
    · rw [samplePin_of_counted hne hn]
      exact ⟨rfl, rfl⟩

/-! ### Runs of equal samples (R294, R295) -/

/-- An event leaves the pin pressed (R293). -/
theorem samplePin_stable_of_event {n : Nat} {r : Bool} {p : PinState} (h : (samplePin n r p).2 = true) :
    (samplePin n r p).1.stable = true := by
  rcases samplePin_cases n r p with ⟨_, e⟩ | ⟨_, _, e⟩ | ⟨_, _, e⟩ <;> rw [e] at h ⊢
  · cases h
  · exact h
  · cases h

/-- While no `n` samples in a row differ from the stable level, it stays and there is no event. The counter stands for the
differing samples already seen: one more of them is moved from the samples to the counter. -/
theorem pinRun_of_noRun {n : Nat} {rs : List Bool} {p : PinState} (hp : p.cnt < n)
    (hrun : ¬ List.replicate n (!p.stable) <:+: List.replicate p.cnt (!p.stable) ++ rs) :
    ∀ e ∈ pinRun n p rs, e = (p.stable, false) := by
  induction rs generalizing p with
  | nil => exact fun e he => nomatch he
  | cons r rs ih =>
    rw [pinRun, List.forall_mem_cons]
    by_cases h : r = p.stable
    · rw [samplePin_of_eq h]
      have hrest : rs <:+: List.replicate p.cnt (!p.stable) ++ r :: rs :=
        ((List.suffix_cons r rs).trans (List.suffix_append _ _)).isInfix
      exact ⟨rfl, ih (Nat.zero_lt_of_lt hp) fun hinf => hrun (hinf.trans hrest)⟩
    · have hmoved : List.replicate p.cnt (!p.stable) ++ r :: rs = List.replicate (p.cnt + 1) (!p.stable) ++ rs := by
        rw [Bool.eq_not_of_ne h, List.append_cons, List.replicate_succ']
      rw [hmoved] at hrun
      have hlt : p.cnt + 1 < n := by
        refine Nat.lt_of_le_of_ne hp fun hn => hrun ?_
        rw [hn]
        exact (List.prefix_append _ _).isInfix
      rw [samplePin_of_counted h hlt]
      exact ⟨rfl, ih hlt hrun⟩

/-- Settles O50: an event is a press, and a pressed pin goes on without one until a run of zeros. -/
theorem oneEventPerPress : Obligations.OneEventPerPress := by
  refine ⟨fun _ _ _ => samplePin_stable_of_event, fun n p rs _ hstable hcnt hrun => ?_⟩
  have hall := pinRun_of_noRun (rs := rs) hcnt
  rw [hstable] at hall
  exact hall hrun

/-- Settles O51: a released pin stays released, without an event, until a run of ones. -/
theorem burstsGiveNoEvent : Obligations.BurstsGiveNoEvent := by
  intro n p rs _ hstable hcnt hrun
  have hall := pinRun_of_noRun (rs := rs) hcnt
  rw [hstable] at hall
  exact hall hrun

/-! ### The shift register (R296) -/

theorem length_shifted (r : Bool) (sr : List Bool) : (r :: sr).dropLast.length = sr.length := by
  rw [List.length_dropLast, List.length_cons, Nat.add_sub_cancel]

/-- The register begins, after a shift, with the new sample and then what it began with before, as far as it is long. -/
theorem prefix_shifted_iff {w sr : List Bool} {r : Bool} :
    w <+: (r :: sr).dropLast ↔ w <+: r :: sr ∧ w.length ≤ sr.length := by
  rw [List.dropLast_eq_take, List.length_cons, Nat.add_sub_cancel, List.prefix_take_iff]

/-- A sample equal to the stable level somewhere in the register keeps the level. -/
theorem shiftSample_of_mem {r : Bool} {q : ShiftPin} (h : q.stable ∈ (r :: q.sr).dropLast) :
    shiftSample r q = ({ q with sr := (r :: q.sr).dropLast }, false) := by
  obtain ⟨stable, sr⟩ := q
  rw [shiftSample]
  cases stable
  case false =>
    have hones : (r :: sr).dropLast.all id = false := List.all_eq_false.2 ⟨_, h, Bool.false_ne_true⟩
    simp [hones]
  case true =>
    have hzeros : (r :: sr).dropLast.all (!·) = false := List.all_eq_false.2 ⟨_, h, Bool.false_ne_true⟩
    simp [hzeros]

/-- A register that holds nothing but the other level changes the pin to it, with an event exactly on a rise. -/
theorem shiftSample_of_replicate {r : Bool} {q : ShiftPin} {n : Nat} (hne : r ≠ q.stable)
    (h : (r :: q.sr).dropLast = List.replicate n r) :
    shiftSample r q = ({ stable := r, sr := List.replicate n r }, r) := by
  obtain ⟨stable, sr⟩ := q
  obtain rfl : r = !stable := Bool.eq_not_of_ne hne
  rw [shiftSample, h]
  cases stable <;> simp

/-- The shift register tells the same of a pin as its counter: the newest `cnt` samples differ from the stable level and the one
before them equals it. -/
structure ShiftAgrees (n : Nat) (p : PinState) (q : ShiftPin) : Prop where
  stable : q.stable = p.stable
  length : q.sr.length = n
  recent : List.replicate p.cnt (!p.stable) ++ [p.stable] <+: q.sr

/-- A pin whose register holds nothing but its level has nothing to count. -/
theorem shiftAgrees_replicate {n : Nat} (hn : 1 ≤ n) (b : Bool) :
    ShiftAgrees n { stable := b, cnt := 0 } { stable := b, sr := List.replicate n b } := by
  obtain ⟨m, rfl⟩ := Nat.exists_eq_succ_of_ne_zero (Nat.ne_zero_of_lt hn)
  exact ⟨rfl, List.length_replicate, ⟨_, rfl⟩⟩

/-- The register holds more samples than the counter has counted. -/
theorem ShiftAgrees.cnt_lt {n : Nat} {p : PinState} {q : ShiftPin} (h : ShiftAgrees n p q) : p.cnt < n := by
  have hle := h.recent.length_le
  rwa [h.length, List.length_append, List.length_replicate] at hle

/-- When the level is kept, what the shifted register begins with shows that it is. -/
theorem shiftSample_agrees_of_recent {n cnt : Nat} {r : Bool} {p : PinState} {q : ShiftPin} (h : ShiftAgrees n p q)
    (hrecent : List.replicate cnt (!p.stable) ++ [p.stable] <+: (r :: q.sr).dropLast) :
    (shiftSample r q).2 = false ∧ ShiftAgrees n { p with cnt := cnt } (shiftSample r q).1 := by
  have hmem : q.stable ∈ (r :: q.sr).dropLast :=
    h.stable ▸ hrecent.subset (List.mem_append_right _ (List.mem_singleton_self _))
  rw [shiftSample_of_mem hmem]
  exact ⟨rfl, h.stable, (length_shifted r q.sr).trans h.length, hrecent⟩

/-- When the counter is full, the shifted register holds nothing but the new level. -/
theorem ShiftAgrees.shifted_eq_replicate {n : Nat} {r : Bool} {p : PinState} {q : ShiftPin} (h : ShiftAgrees n p q)
    (hne : r ≠ p.stable) (hn : n ≤ p.cnt + 1) : (r :: q.sr).dropLast = List.replicate n r := by
  have hcnt : p.cnt + 1 = n := Nat.le_antisymm h.cnt_lt hn
  have hold : List.replicate p.cnt r <+: q.sr := Bool.eq_not_of_ne hne ▸ (List.prefix_append _ _).trans h.recent
  have hnew : List.replicate n r <+: (r :: q.sr).dropLast := by
    rw [← hcnt, List.replicate_succ, prefix_shifted_iff, List.length_cons, List.length_replicate, h.length]
    exact ⟨List.cons_prefix_cons.2 ⟨rfl, hold⟩, h.cnt_lt⟩
  exact (hnew.eq_of_length (by rw [List.length_replicate, length_shifted, h.length])).symm

/-- One sample has the same event in both realisations and keeps them in agreement. -/
theorem shiftSample_agrees {n : Nat} (r : Bool) {p : PinState} {q : ShiftPin} (h : ShiftAgrees n p q) :
    (shiftSample r q).2 = (samplePin n r p).2 ∧ ShiftAgrees n (samplePin n r p).1 (shiftSample r q).1 := by
  have hcnt := h.cnt_lt
  rcases samplePin_cases n r p with ⟨heq, e⟩ | ⟨hne, hn, e⟩ | ⟨hne, hn, e⟩ <;> rw [e]
  · refine shiftSample_agrees_of_recent h (cnt := 0) (prefix_shifted_iff.2 ⟨?_, ?_⟩)
    · rw [heq]
      exact List.prefix_append _ _
    · rw [h.length]
      exact Nat.one_le_of_lt hcnt
  · rw [shiftSample_of_replicate (h.stable ▸ hne) (h.shifted_eq_replicate hne hn)]
    exact ⟨rfl, shiftAgrees_replicate (Nat.one_le_of_lt hcnt) r⟩
  · refine shiftSample_agrees_of_recent h (prefix_shifted_iff.2 ⟨?_, ?_⟩)
    · rw [List.replicate_succ, List.cons_append, Bool.eq_not_of_ne hne]
      exact List.cons_prefix_cons.2 ⟨rfl, h.recent⟩
    · rw [h.length, List.length_append, List.length_replicate]
      exact hn

theorem shiftRun_of_agrees {n : Nat} {p : PinState} {q : ShiftPin} (h : ShiftAgrees n p q) (rs : List Bool) :
    pinRun n p rs = shiftRun q rs := by
  induction rs generalizing p q with
  | nil => rfl
  | cons r rs ih =>
    obtain ⟨hevent, hnext⟩ := shiftSample_agrees r h
    rw [pinRun, shiftRun, hnext.stable, hevent, ih hnext]

/-- Settles O52: the two realisations agree at reset, and every sample keeps them so. -/
theorem shiftRegisterRealisation : Obligations.ShiftRegisterRealisation :=
  fun _ rs hn => shiftRun_of_agrees (shiftAgrees_replicate hn false) rs

end Sys2Proof.Proofs
end

section
/-! SUPPORT. The display's own operations: what DSM.TICK, the Button Events, DSM.MEAS and BLK.TICK write, and the blink's period
(46_display_fsm.md R314 to R325). -/

namespace Sys2Proof.Proofs

open Sys2Proof.Machine Sys2Proof.Laws

/-! ### The operations -/

theorem exec_dsmTick (s : State) : exec .dsmTick s = .next ((s.setDisp (dwellTick s.cfg s.disp)).setRes .none) := rfl

theorem exec_dsmBtnSensor (s : State) : exec .dsmBtnSensor s = .next ((showSensor s).setRes .none) := rfl

theorem exec_dsmMeas (s : State) : exec .dsmMeas s = .next ((readSnapshot s).setRes .none) := rfl

theorem exec_blkTick (a : Bool) (s : State) :
    exec (.blkTick a) s = .next ((s.setBlink (blinkTick s.cfg a s.blink)).setRes .none) := rfl

theorem exec_dsmBtnMedia (i : Nat) (s : State) : exec (.dsmBtnMedia i) s =
    if mediaIndexOk s.cfg i then .next ((showMedia i s).setRes .none) else .refused .mediaIndexOutOfRange := rfl

theorem exec_dsmBtnMedia_of_lt {i : Nat} {s : State} (h : i < s.cfg.nMedia) :
    exec (.dsmBtnMedia i) s = .next ((showMedia i s).setRes .none) :=
  (exec_dsmBtnMedia i s).trans (if_pos (decide_eq_true h))

/-- R312 knows no such index (log 17). -/
theorem exec_dsmBtnMedia_of_le {i : Nat} {s : State} (h : s.cfg.nMedia ≤ i) :
    exec (.dsmBtnMedia i) s = .refused .mediaIndexOutOfRange :=
  (exec_dsmBtnMedia i s).trans (if_neg fun hi => Nat.not_lt.2 h (of_decide_eq_true hi))

/-! ### The startup tick -/

theorem dwellTick_of_startup {c : Cfg} {d : Disp} {i : Nat} (h : d.mode = .startup i) : dwellTick c d =
    if c.startupN ≤ d.dwell + 1 then { mode := if c.nMedia ≤ i + 1 then .sensor else .startup (i + 1), dwell := 0 }
    else { mode := .startup i, dwell := d.dwell + 1 } := by
  rw [dwellTick, h]

/-- Outside the startup sequence DSM.TICK does nothing (R314). -/
theorem dwellTick_of_left {c : Cfg} {d : Disp} (h : d.mode.isStartup = false) : dwellTick c d = d := by
  rcases dwellTick_cases c d with ⟨i, hm, _⟩ | ⟨i, hm, _⟩ | ⟨i, hm, _⟩ | ⟨_, e⟩
  case inr.inr.inr => exact e
  all_goals
    rw [hm] at h
    cases h

/-! ### The blink timer -/

theorem blinkTick_of_rise {c : Cfg} {b : Blink} (h : b.armed = false) :
    blinkTick c true b = { visible := true, cnt := 0, armed := true } := by
  rw [blinkTick, if_pos rfl, if_neg (Bool.eq_false_iff.1 h)]

theorem blinkTick_of_armed {c : Cfg} {b : Blink} (h : b.armed = true) : blinkTick c true b =
    if c.blinkN ≤ b.cnt + 1 then { visible := !b.visible, cnt := 0, armed := true }
    else { visible := b.visible, cnt := b.cnt + 1, armed := true } := by
  rw [blinkTick, if_pos rfl, if_pos h, h]

/-- Settles O53: the equation of each operation, case by case. -/
theorem displayOperations : Obligations.DisplayOperations := by
  refine fun s => ⟨fun i hi => ?startup, fun hleft => ?left, fun i => exec_dsmBtnMedia_of_lt, fun i => exec_dsmBtnMedia_of_le,
    exec_dsmBtnSensor s, ⟨_, exec_dsmMeas s, fun hv => ?noSnapshot, fun hv => ?snapshot⟩, exec_blkTick false s,
    fun ha => ?rise, fun ha => ?armed⟩
  case startup =>
    rw [exec_dsmTick, dwellTick_of_startup hi]
    rfl
  case left =>
    have h : s.disp.mode.isStartup = false := by rcases hleft with ⟨i, hm⟩ | hm <;> rw [hm] <;> rfl
    rw [exec_dsmTick, dwellTick_of_left h]
    rfl
  case noSnapshot => rw [intentMeasurement, hv, if_neg Bool.false_ne_true]
  case snapshot => rw [intentMeasurement, if_pos hv, snapMeasurement]
  case rise =>
    rw [exec_blkTick, blinkTick_of_rise ha]
    rfl
  case armed =>
    rw [exec_blkTick, blinkTick_of_armed ha]
    rfl

/-! ### The blink's period (R323, R324) -/

/-- The blink timer `k` ticks after it was armed. -/
def blinkAfter (n k : Nat) : Blink := { visible := decide (k / n % 2 = 0), cnt := k % n, armed := true }

theorem blinkAfter_zero (n : Nat) : blinkAfter n 0 = { visible := true, cnt := 0, armed := true } := by
  simp [blinkAfter]

/-- The counter stands at the remainder and the flips at the quotient of the ticks by `BLINK_N`. -/
theorem blinkTick_blinkAfter {c : Cfg} (hn : 1 ≤ c.blinkN) (k : Nat) :
    blinkTick c true (blinkAfter c.blinkN k) = blinkAfter c.blinkN (k + 1) := by
  have hlt : k % c.blinkN < c.blinkN := Nat.mod_lt k hn
  have hk : k % c.blinkN + c.blinkN * (k / c.blinkN) = k := Nat.mod_add_div k c.blinkN
  rw [blinkTick_of_armed rfl, blinkAfter, blinkAfter]
  by_cases hfull : c.blinkN ≤ k % c.blinkN + 1
  · obtain ⟨hdiv, hmod⟩ : (k + 1) / c.blinkN = k / c.blinkN + 1 ∧ (k + 1) % c.blinkN = 0 := by
      rw [Nat.div_mod_unique hn]
      exact ⟨by rw [Nat.mul_succ]; omega, hn⟩
    rw [if_pos hfull, hdiv, hmod, ← decide_not]
    congr 2
    simp only [eq_iff_iff]
    omega
  · obtain ⟨hdiv, hmod⟩ : (k + 1) / c.blinkN = k / c.blinkN ∧ (k + 1) % c.blinkN = k % c.blinkN + 1 := by
      rw [Nat.div_mod_unique hn]
      exact ⟨by omega, by omega⟩
    rw [if_neg hfull, hdiv, hmod]

theorem runAll_blkTicks {s : State} (hn : 1 ≤ s.cfg.blinkN) (m : Nat) {k : Nat} (h : s.blink = blinkAfter s.cfg.blinkN k) :
    ∃ t, runAll (List.replicate m (.blkTick true)) s = .next t ∧ t.blink = blinkAfter s.cfg.blinkN (k + m) := by
  induction m generalizing s k with
  | zero => exact ⟨s, rfl, h⟩
  | succ m ih =>
    rw [List.replicate_succ, runAll_next (exec_blkTick true s), Nat.add_comm m, ← Nat.add_assoc]
    refine ih (s := (s.setBlink (blinkTick s.cfg true s.blink)).setRes .none) hn ?_
    rw [setRes_blink, setBlink_blink, h, blinkTick_blinkAfter hn, setRes_cfg, setBlink_cfg]

/-- Settles O58: the first tick arms the timer, and every further one takes it from `k` to `k + 1`. -/
theorem blinkPeriod : Obligations.BlinkPeriod := by
  intro s k hn harmed
  obtain ⟨t, hrun, hblink⟩ := runAll_blkTicks (s := (s.setBlink (blinkTick s.cfg true s.blink)).setRes .none) hn k
    (k := 0) ((blinkTick_of_rise harmed).trans (blinkAfter_zero _).symm)
  rw [Nat.zero_add] at hblink
  refine ⟨t, ?_, ?_, ?_, ?_⟩
  · rw [List.replicate_succ, runAll_next (exec_blkTick true s), hrun]
  all_goals
    rw [hblink]
    rfl

end Sys2Proof.Proofs
end

section
/-! SUPPORT. A ui tick as its sequence of operations, and which of its events decides (46_display_fsm.md R310, R319, R320). -/

namespace Sys2Proof.Proofs

open Sys2Proof.Machine Sys2Proof.Laws

/-! ### The monitored pins, in ascending order -/

theorem monitoredFrom_ascending (k : Nat) (us : List PinUse) : (monitoredFrom k us).Pairwise (· < ·) := by
  induction us generalizing k with
  | nil => exact .nil
  | cons u us ih =>
    have hfirst : ∀ q ∈ monitoredFrom (k + 1) us, k < q := by
      intro q hq
      obtain ⟨i, rfl, _⟩ := (mem_monitoredFrom q (k + 1) us).1 hq
      omega
    cases u with
    | unmapped => exact ih (k + 1)
    | media i => exact .cons hfirst (ih (k + 1))
    | sensor => exact .cons hfirst (ih (k + 1))

theorem keys_ascending {c : Cfg} {db : List (Nat × PinState)} (h : DbOk c db) : (db.map Prod.fst).Pairwise (· < ·) :=
  h.1 ▸ monitoredFrom_ascending 0 c.pinmap

/-- The events of a ui tick come in the order of the pins (R310). -/
theorem events_ascending {c : Cfg} {db : List (Nat × PinState)} (h : DbOk c db) (n : Nat) (raw : List Bool) :
    (sampleAll n raw db).2.Pairwise (· < ·) := by
  rw [sampleAll_events]
  exact (keys_ascending h).sublist (List.filter_sublist.map _)

/-! ### The samples (R310 step 1) -/

/-- A pin's own entry is the one that is sampled, wherever it stands in the list. -/
theorem samplePinIn_append {n p : Nat} {r : Bool} {st : PinState} {front : List (Nat × PinState)}
    (h : p ∉ front.map Prod.fst) (back : List (Nat × PinState)) :
    samplePinIn n p r (front ++ (p, st) :: back) =
      (front ++ (p, (samplePin n r st).1) :: back, (samplePin n r st).2) := by
  induction front with
  | nil => rw [List.nil_append, samplePinIn, if_pos rfl, List.nil_append]
  | cons e front ih =>
    obtain ⟨hne, hrest⟩ := not_or.1 (mt List.mem_cons.2 h)
    rw [List.cons_append, samplePinIn, if_neg (Ne.symm hne), ih hrest, List.cons_append]

/-- The pins from one on sampled by themselves are those pins sampled at once; `front` is what has been sampled before them. -/
theorem sampleEach_back (raw : List Bool) {back front : List (Nat × PinState)} {s : State} (hdb : s.db = front ++ back)
    (hkeys : ((front ++ back).map Prod.fst).Nodup) : ∃ r, sampleEach raw (back.map Prod.fst) s =
      some ({ s with db := front ++ (sampleAll s.cfg.debounceN raw back).1, res := r },
        (sampleAll s.cfg.debounceN raw back).2) := by
  induction back generalizing front s with
  | nil => exact ⟨s.res, by rw [List.map_nil, sampleEach, sampleAll, ← hdb]⟩
  | cons e back ih =>
    obtain ⟨p, st⟩ := e
    have hp : p ∉ front.map Prod.fst := by
      rw [List.map_append, List.nodup_append] at hkeys
      obtain ⟨_, _, hdisjoint⟩ := hkeys
      exact fun hmem => hdisjoint p hmem p List.mem_cons_self rfl
    have hexec := exec_dbSample p (rawLevel raw p) s
    rw [hdb, samplePinIn_append hp] at hexec
    obtain ⟨r, hr⟩ := ih (front := front ++ [(p, (samplePin s.cfg.debounceN (rawLevel raw p) st).1)])
      (s := { s with
        db := front ++ (p, (samplePin s.cfg.debounceN (rawLevel raw p) st).1) :: back
        res := .event (if (samplePin s.cfg.debounceN (rawLevel raw p) st).2 then some p else none) })
      (List.append_cons _ _ _) (by simpa using hkeys)
    refine ⟨r, ?_⟩
    rw [List.map_cons, sampleEach, hexec]
    dsimp only at hr ⊢
    rw [hr, sampleAll]
    cases (samplePin s.cfg.debounceN (rawLevel raw p) st).2 <;> simp

/-! ### The events (R310 step 2) -/

section
variable {s : State} {p : Nat}

theorem buttonEvent_of_media {i : Nat} (h : pinUse s.cfg p = .media i) : buttonEvent s p = showMedia i s := by
  rw [buttonEvent, h]

theorem buttonEvent_of_sensor (h : pinUse s.cfg p = .sensor) : buttonEvent s p = showSensor s := by rw [buttonEvent, h]

theorem buttonEvent_of_unmapped (h : pinUse s.cfg p = .unmapped) : buttonEvent s p = s := by rw [buttonEvent, h]

end

theorem runAll_append {is : List Instr} {s t : State} (h : runAll is s = .next t) (js : List Instr) :
    runAll (is ++ js) s = runAll js t := by
  induction is generalizing s with
  | nil =>
    cases h
    rfl
  | cons i is ih =>
    rw [List.cons_append, runAll]
    rw [runAll] at h
    cases hi : exec i s with
    | next u =>
      rw [hi] at h
      exact ih h
    | fault e => rw [hi] at h; cases h
    | refused e => rw [hi] at h; cases h

theorem events_cfg (ps : List Nat) (s : State) : (ps.foldl buttonEvent s).cfg = s.cfg := by rw [events_eq, setDisp_cfg]

theorem buttonEvent_setRes (s : State) (r : OpResult) (p : Nat) : buttonEvent (s.setRes r) p = (buttonEvent s p).setRes r := by
  rw [buttonEvent, buttonEvent, setRes_cfg]
  split <;> rfl

theorem events_setRes (ps : List Nat) (s : State) (r : OpResult) :
    ps.foldl buttonEvent (s.setRes r) = (ps.foldl buttonEvent s).setRes r := by
  induction ps generalizing s with
  | nil => rfl
  | cons p ps ih => rw [List.foldl_cons, buttonEvent_setRes, ih, List.foldl_cons]

/-- The operations the events start do what the events do (R316 to R318); only the result is theirs. -/
theorem runAll_eventInstrs {s : State} (hc : CfgFacts s.cfg) (ps : List Nat) :
    ∃ r, runAll (eventInstrs s.cfg ps) s = .next ((ps.foldl buttonEvent s).setRes r) := by
  induction ps generalizing s with
  | nil => exact ⟨s.res, rfl⟩
  | cons p ps ih =>
    rw [eventInstrs, List.filterMap_cons, List.foldl_cons]
    cases hp : pinUse s.cfg p with
    | unmapped =>
      rw [buttonEvent_of_unmapped hp]
      exact ih hc
    | media i =>
      obtain ⟨r, hr⟩ := ih (s := (showMedia i s).setRes .none) hc
      rw [events_setRes] at hr
      rw [buttonEvent_of_media hp]
      exact ⟨r, (runAll_next (exec_dsmBtnMedia_of_lt (pinUse_media hc hp)) _).trans hr⟩
    | sensor =>
      obtain ⟨r, hr⟩ := ih (s := (showSensor s).setRes .none) hc
      rw [events_setRes] at hr
      rw [buttonEvent_of_sensor hp]
      exact ⟨r, (runAll_next (exec_dsmBtnSensor s) _).trans hr⟩

/-! ### The sequence -/

/-- A ui tick before its outputs take mode and blink flag (R310 steps 1 to 4). -/
def uiTickOps (raw : List Bool) (s : State) : State :=
  { s with
    db := (sampleAll s.cfg.debounceN raw s.db).1
    disp := tickedDisp raw s
    blink := blinkTick s.cfg s.snap.alert s.blink
    out := { s.out with meas := intentMeasurement s.snap }
    res := .none }

/-- The outputs take mode and blink flag last (R327). -/
theorem exec_uiTick_eq (raw : List Bool) (s : State) : exec (.uiTick raw) s = .next { uiTickOps raw s with
    out := { mode := (uiTickOps raw s).disp.mode, meas := (uiTickOps raw s).out.meas,
             blink := (uiTickOps raw s).blink.visible } } := by
  rw [exec_uiTick, uiTick_eq]
  rfl

/-- The startup tick, the snapshot and the blink tick one after another (R310 steps 3 and 4). -/
theorem runAll_ticks (a : Bool) (s : State) : runAll [.dsmTick, .dsmMeas, .blkTick a] s = .next { s with
    disp := dwellTick s.cfg s.disp
    blink := blinkTick s.cfg a s.blink
    out := { s.out with meas := intentMeasurement s.snap }
    res := .none } := by
  rw [runAll_next (exec_dsmTick _), runAll_next (exec_dsmMeas _), runAll_next (exec_blkTick _ _), runAll]
  simp only [readSnapshot, State.setDisp, State.setOut, State.setBlink, State.setRes]

/-- Every monitored pin has its sample, one after another (R310 step 1). -/
theorem sampleEach_monitored {s : State} (h : DbOk s.cfg s.db) (raw : List Bool) : ∃ r,
    sampleEach raw (monitoredFrom 0 s.cfg.pinmap) s =
      some ((s.setDb (sampleAll s.cfg.debounceN raw s.db).1).setRes r, (sampleAll s.cfg.debounceN raw s.db).2) := by
  rw [← h.1]
  exact sampleEach_back raw (front := []) rfl ((keys_ascending h).imp Nat.ne_of_lt)

/-- After the samples the events' operations and the three ticks make up the rest (R310 steps 2 to 4). -/
theorem runAll_afterSamples {s : State} (hc : CfgFacts s.cfg) (raw : List Bool) (r : OpResult) :
    runAll (eventInstrs s.cfg (sampleAll s.cfg.debounceN raw s.db).2 ++ [.dsmTick, .dsmMeas, .blkTick s.snap.alert])
      ((s.setDb (sampleAll s.cfg.debounceN raw s.db).1).setRes r) = .next (uiTickOps raw s) := by
  obtain ⟨r', hrun⟩ := runAll_eventInstrs (s := (s.setDb (sampleAll s.cfg.debounceN raw s.db).1).setRes r) hc
    (sampleAll s.cfg.debounceN raw s.db).2
  rw [events_setRes, events_eq, setRes_cfg, setDb_cfg] at hrun
  rw [runAll_append hrun, runAll_ticks, uiTickOps, tickedDisp]
  simp only [State.setDb, State.setDisp, State.setRes]

/-- Settles O54: the samples one by one, then the operations of their events, then the three ticks. -/
theorem uiTickIsItsSequence : Obligations.UiTickIsItsSequence := by
  intro s raw hwf hdb
  obtain ⟨r, hsamples⟩ := sampleEach_monitored hdb raw
  exact ⟨_, _, uiTickOps raw s, hsamples, runAll_afterSamples ((cfgWf_iff s.cfg).1 hwf) raw r, exec_uiTick_eq raw s, rfl⟩

/-! ### The last event decides (R319, R320) -/

/-- The greatest of an ascending list stands at its end. -/
theorem eq_concat_of_greatest {l : List Nat} {p : Nat} (hl : l.Pairwise (· < ·)) (hp : p ∈ l) (hmax : ∀ q ∈ l, q ≤ p) :
    ∃ front, l = front ++ [p] := by
  obtain ⟨front, back, rfl⟩ := List.append_of_mem hp
  cases back with
  | nil => exact ⟨front, rfl⟩
  | cons q back =>
    have hlt : p < q := List.rel_of_pairwise_cons (List.pairwise_append.1 hl).2.1 List.mem_cons_self
    exact absurd (hmax q (by simp)) (Nat.not_le.2 hlt)

/-- The mode of the last event is the one the startup tick finds, and it leaves that mode alone: no event leads to `Startup`. -/
theorem tickedDisp_of_lastEvent {s : State} {raw : List Bool} {front : List Nat} {p : Nat}
    (h : (sampleAll s.cfg.debounceN raw s.db).2 = front ++ [p]) :
    (∀ i, pinUse s.cfg p = .media i → tickedDisp raw s = { mode := .media i, dwell := 0 }) ∧
    (pinUse s.cfg p = .sensor → tickedDisp raw s = { mode := .sensor, dwell := 0 }) := by
  have hcfg := events_cfg front (s.setDb (sampleAll s.cfg.debounceN raw s.db).1)
  rw [tickedDisp, h, List.foldl_append, List.foldl_cons, List.foldl_nil]
  generalize front.foldl buttonEvent (s.setDb (sampleAll s.cfg.debounceN raw s.db).1) = u at *
  rw [setDb_cfg] at hcfg
  rw [← hcfg]
  refine ⟨fun i hi => ?_, fun hs => ?_⟩
  · rw [buttonEvent_of_media hi]
    rfl
  · rw [buttonEvent_of_sensor hs]
    rfl

/-- Settles O55: events come in ascending order, so that the highest pin's is the last one. -/
theorem highestPinDecides : Obligations.HighestPinDecides := by
  rintro s raw evs p hdb rfl hp hmax
  obtain ⟨front, hfront⟩ := eq_concat_of_greatest (events_ascending hdb s.cfg.debounceN raw) hp hmax
  obtain ⟨hmedia, hsensor⟩ := tickedDisp_of_lastEvent hfront
  have hdisp : (uiTickOps raw s).disp = tickedDisp raw s := rfl
  refine ⟨_, exec_uiTick_eq raw s, fun i hi => ?_, fun hs => ?_⟩
  · rw [hdisp, hmedia i hi]
    exact ⟨rfl, rfl⟩
  · rw [hdisp, hsensor hs]
    exact ⟨rfl, rfl⟩

end Sys2Proof.Proofs
end

section
/-! SUPPORT. The startup sequence, once left, stays left: in every operation but RESET, and in every step of the block by itself
(46_display_fsm.md R321). -/

namespace Sys2Proof.Proofs

open Sys2Proof.Machine Sys2Proof.Laws

/-! ### The UI agent -/

theorem buttonEvent_left {s : State} (h : s.disp.mode.isStartup = false) (p : Nat) :
    (buttonEvent s p).disp.mode.isStartup = false := by
  unfold buttonEvent
  split
  · rfl
  · rfl
  · exact h

theorem events_left {s : State} (h : s.disp.mode.isStartup = false) (ps : List Nat) :
    (ps.foldl buttonEvent s).disp.mode.isStartup = false := by
  induction ps generalizing s with
  | nil => exact h
  | cons p ps ih => exact ih (buttonEvent_left h p)

theorem dwellTick_left {c : Cfg} {d : Disp} (h : d.mode.isStartup = false) : (dwellTick c d).mode.isStartup = false := by
  rwa [dwellTick_of_left h]

theorem uiTick_left {s : State} (h : s.disp.mode.isStartup = false) (raw : List Bool) :
    (uiTick raw s).disp.mode.isStartup = false := by
  rw [uiTick_eq]
  exact dwellTick_left (events_left (s := s.setDb (sampleAll s.cfg.debounceN raw s.db).1) h _)

theorem uiMove_left {s : State} (h : s.disp.mode.isStartup = false) : (uiMove s).disp.mode.isStartup = false :=
  uiTick_left h (rawOperand s)

/-! ### The poll agent -/

theorem afterAttempt_uiSide (o : AttemptResult) (s : State) : uiSide (afterAttempt o s) = uiSide s := by
  rcases afterAttempt_cases o s with ⟨_, _, e⟩ | ⟨_, e⟩ | ⟨_, _, e⟩ | ⟨_, _, e⟩ <;> rw [e] <;> rfl

theorem handByte_uiSide (d : Byte) (s : State) : uiSide (handByte d s) = uiSide s := by
  have hui := (loadChar_frame d s).ui
  rw [handByte]
  generalize loadChar d s = w at *
  dsimp only
  split <;> exact hui

section
variable {s t : State}

theorem takeResult_uiSide (h : takeResult s = .next t) : uiSide t = uiSide s := by
  rcases takeResult_next h with rfl | ⟨e, rfl⟩
  · rfl
  · exact afterAttempt_uiSide _ s

theorem transactMove_uiSide (h : transactMove s = some (.next t)) : uiSide t = uiSide s := by
  rcases transactMove_cases s h with ⟨_, ⟨⟩⟩ | ⟨_, _, ⟨⟩⟩ | ⟨_, _, _, ⟨⟩⟩ | ⟨d, _, _, _, _, ⟨⟩⟩ | ⟨_, _, _, _, ⟨⟩⟩ |
    ⟨_, _, ⟨⟩⟩ | ⟨_, _, ⟨⟩⟩ | ⟨_, _, e⟩
  · exact (startTransaction_frame s).ui
  · exact (assertDir_frame s).ui
  · exact (enterPhase_frame s _).ui
  · exact handByte_uiSide d s
  · exact (receiveEnable_frame s).ui
  · exact (enterPhase_frame s _).ui
  · exact takeResult_uiSide e.symm

theorem decodeMove_uiSide (h : decodeMove s = .next t) : uiSide t = uiSide s := by
  obtain ⟨bytes, _, rfl⟩ := decodeMove_next h
  exact (afterAttempt_uiSide _ _).trans (decodeInto_frame bytes s.cfg.slaveId (countOperand s.cfg) s).ui

/-- No move of the poll agent touches the UI agent's elements (R370). -/
theorem pollMove_uiSide (h : pollMove s = some (.next t)) : uiSide t = uiSide s := by
  rcases pollMove_cases s h with ⟨_, _, ⟨⟩⟩ | ⟨_, ⟨⟩⟩ | ⟨_, ht⟩ | ⟨_, ht⟩ | ⟨_, _, ⟨⟩⟩ | ⟨_, ht⟩ | ⟨_, ⟨⟩⟩
  · rfl
  · rw [encodeMove_eq]
    exact (beginAttempt_frame (encoded s)).ui
  · exact transactMove_uiSide ht
  · exact decodeMove_uiSide ht.symm
  · exact (beginAttempt_frame (returnFromError s)).ui
  · obtain ⟨_, _, _, _, rfl⟩ := convertMove_next ht.symm
    rfl
  · rfl

theorem disp_of_uiSide (h : uiSide t = uiSide s) : t.disp = s.disp := congrArg UiSide.disp h

theorem left_of_uiSide (hleft : s.disp.mode.isStartup = false) (h : uiSide t = uiSide s) :
    t.disp.mode.isStartup = false := by
  rwa [disp_of_uiSide h]

theorem pollMove_left (hleft : s.disp.mode.isStartup = false) (h : pollMove s = some (.next t)) :
    t.disp.mode.isStartup = false :=
  left_of_uiSide hleft (pollMove_uiSide h)

theorem tick_left (hleft : s.disp.mode.isStartup = false) : (tick s).disp.mode.isStartup = false :=
  left_of_uiSide (s := s) (t := tickWith (rxdPort s) s) hleft (tickWith_frame _ s).ui

/-! ### Steps and operations -/

/-- Whoever moves, the sequence stays left. -/
theorem autoStep_left (hleft : s.disp.mode.isStartup = false) (h : autoStep s = .next t) :
    t.disp.mode.isStartup = false := by
  have hdrawn : (dropDraw s).disp.mode.isStartup = false := hleft
  rcases autoStep_cases s with ⟨_, _, e⟩ | ⟨_, _, e⟩ | ⟨o, ho, _, e⟩ | ⟨_, _, _, _, e⟩ | ⟨_, _, _, _, e⟩ <;> rw [e] at h
  · cases h
    exact tick_left hleft
  · cases h
    exact uiMove_left hleft
  · exact pollMove_left hleft (h ▸ ho)
  · cases h
    exact uiMove_left hdrawn
  · cases ho : pollMove (dropDraw s) with
    | none =>
      rw [ho] at h
      cases h
      exact uiMove_left hdrawn
    | some o =>
      rw [ho] at h
      exact pollMove_left hdrawn (h ▸ ho)

/-- RESET apart, only the UI agent's operations write the display (R42), and none of them enters the startup sequence. -/
theorem exec_left {i : Instr} (hi : i ≠ .reset) (hleft : s.disp.mode.isStartup = false) (h : exec i s = .next t) :
    t.disp.mode.isStartup = false := by
  obtain ⟨_, hwrites⟩ := eachElementHasItsWriters i s t h
  cases i with
  | reset => exact absurd rfl hi
  | uiTick raw =>
    cases h
    exact uiTick_left hleft raw
  | dsmTick =>
    cases h
    exact dwellTick_left hleft
  | dsmBtnMedia index =>
    by_cases hindex : index < s.cfg.nMedia
    · rw [exec_dsmBtnMedia_of_lt hindex] at h
      cases h
      rfl
    · rw [exec_dsmBtnMedia_of_le (Nat.not_lt.1 hindex)] at h
      cases h
  | dsmBtnSensor =>
    cases h
    rfl
  | dbSample | dsmMeas | blkTick =>
    cases h
    exact hleft
  | mstCycle => exact left_of_uiSide hleft hwrites
  | spPublish =>
    obtain ⟨hui, _⟩ := hwrites
    exact left_of_uiSide hleft hui
  | mstPoll =>
    obtain ⟨_, hui⟩ := hwrites
    exact left_of_uiSide hleft hui
  | _ =>
    obtain ⟨_, hui, _⟩ := hwrites
    exact left_of_uiSide hleft hui

end

/-- Settles O56: the operations one by one, and the block's own step by whose move it is. -/
theorem startupNeverResumes : Obligations.StartupNeverResumes :=
  ⟨fun _ _ _ hi hleft h => exec_left hi hleft h,
   fun _ _ hp hr hleft h => autoStep_left hleft (autoStep_of_step hp hr h)⟩

end Sys2Proof.Proofs
end

section
/-! SUPPORT. The poll agent and the clock neither read nor write what the UI agent owns (60_exceptions.md R370,
70_reset_and_hazards.md R407): a move and a tick give the same whether it is there or blanked out by `pollSide`. -/

namespace Sys2Proof.Proofs

open Sys2Proof.Machine Sys2Proof.Laws

/-- An outcome's next state seen through `f`. -/
def onNext (f : State → State) : Host.Outcome State Fault Refusal → Host.Outcome State Fault Refusal
  | .next t => .next (f t)
  | .fault e => .fault e
  | .refused e => .refused e

theorem onNext_eq_next {f : State → State} {o : Host.Outcome State Fault Refusal} {t : State} (h : onNext f o = .next t) :
    ∃ u, o = .next u ∧ f u = t := by
  cases o with
  | next u => exact ⟨u, rfl, Host.Outcome.next.inj h⟩
  | fault => cases h
  | refused => cases h

/-! ### What the poll side shows -/

section
variable (s : State)

@[simp] theorem pollSide_cfg : (pollSide s).cfg = s.cfg := rfl
@[simp] theorem pollSide_tr : (pollSide s).tr = s.tr := rfl
@[simp] theorem pollSide_utx : (pollSide s).utx = s.utx := rfl
@[simp] theorem pollSide_mst : (pollSide s).mst = s.mst := rfl
@[simp] theorem pollSide_now : (pollSide s).now = s.now := rfl
@[simp] theorem pollSide_answers : (pollSide s).env.answers = s.env.answers := rfl
@[simp] theorem txByte_pollSide : txByte (pollSide s) = txByte s := rfl
@[simp] theorem rxOperand_pollSide : rxOperand (pollSide s) = rxOperand s := rfl
@[simp] theorem frameOperand_pollSide (f : FrameRef) : frameOperand f (pollSide s) = frameOperand f s := by cases f; rfl
@[simp] theorem receptionOver_pollSide : receptionOver (pollSide s) = receptionOver s := rfl

/-! ### The moves of the poll agent -/

theorem beginAttempt_pollSide : beginAttempt (pollSide s) = pollSide (beginAttempt s) := by
  rw [beginAttempt, beginAttempt, pollSide_tr]
  split <;> rfl

theorem encodeMove_pollSide : encodeMove (pollSide s) = pollSide (encodeMove s) := beginAttempt_pollSide (encoded s)

theorem handByte_pollSide (d : Byte) : handByte d (pollSide s) = pollSide (handByte d s) := by
  have hload : loadChar d (pollSide s) = pollSide (loadChar d s) := rfl
  rw [handByte, handByte, hload]
  generalize loadChar d s = w
  dsimp only
  rw [pollSide_tr]
  split <;> rfl

theorem receiveEnable_pollSide : receiveEnable (pollSide s) = pollSide (receiveEnable s) := by
  rw [receiveEnable, receiveEnable, pollSide_answers]
  cases s.env.answers with
  | nil => rfl
  | cons => rfl

theorem afterAttempt_pollSide (o : AttemptResult) : afterAttempt o (pollSide s) = pollSide (afterAttempt o s) := by
  rw [afterAttempt, afterAttempt]
  cases verdict o with
  | success => rfl
  | reject => rfl
  | retry =>
    dsimp only
    rw [pollSide_mst, pollSide_cfg]
    split <;> rfl

theorem takeResult_pollSide : takeResult (pollSide s) = onNext pollSide (takeResult s) := by
  rw [takeResult, takeResult, rxOperand_pollSide]
  cases rxOperand s with
  | none => rfl
  | some bytes =>
    dsimp only
    rw [pollSide_tr]
    cases transportResult s.tr.ioErr bytes with
    | ok => rfl
    | err e => exact congrArg Host.Outcome.next (afterAttempt_pollSide s (.transport e))

theorem decodeInto_pollSide (bytes : List Byte) (slave : Byte) (n : U16) :
    decodeInto bytes slave n (pollSide s) =
      (pollSide (decodeInto bytes slave n s).1, (decodeInto bytes slave n s).2) := by
  rw [decodeInto, decodeInto]
  cases decodeResponse bytes slave n with
  | ok => rfl
  | err => rfl

theorem decodeMove_pollSide : decodeMove (pollSide s) = onNext pollSide (decodeMove s) := by
  rw [decodeMove, decodeMove, rxOperand_pollSide]
  cases rxOperand s with
  | none => rfl
  | some bytes =>
    dsimp only
    rw [decodeInto_pollSide]
    exact congrArg Host.Outcome.next (afterAttempt_pollSide _ _)

theorem convertMove_pollSide : convertMove (pollSide s) = onNext pollSide (convertMove s) := by
  rw [convertMove, convertMove, frameOperand_pollSide]
  cases frameOperand .regframe s with
  | none => rfl
  | some f =>
    dsimp only
    rw [convertPublish, convertPublish, pollSide_cfg, pollSide_now]
    cases convertFrame s.cfg f s.now with
    | none => rfl
    | some => rfl

theorem transactMove_pollSide : transactMove (pollSide s) = (transactMove s).map (onNext pollSide) := by
  rw [transactMove, transactMove, pollSide_tr, pollSide_mst, pollSide_utx, pollSide_cfg, txByte_pollSide,
    receptionOver_pollSide, takeResult_pollSide, receiveEnable_pollSide]
  cases s.tr.phase with
  | idle => rfl
  | flush => rfl
  | tx =>
    dsimp only
    split
    · rfl
    · split
      · rfl
      · cases txByte s with
        | none => rfl
        | some d => exact congrArg (some <| Host.Outcome.next ·) (handByte_pollSide s d)
  | _ =>
    dsimp only
    split <;> rfl

/-- The poll agent's move is the same on its own side of the state (R370). -/
theorem pollMove_pollSide : pollMove (pollSide s) = (pollMove s).map (onNext pollSide) := by
  rw [pollMove, pollMove, pollSide_mst, pollSide_cfg]
  cases s.mst.phase with
  | wait =>
    dsimp only
    split <;> rfl
  | encode => exact congrArg (some <| Host.Outcome.next ·) (encodeMove_pollSide s)
  | transact => exact transactMove_pollSide s
  | decode => exact congrArg some (decodeMove_pollSide s)
  | backoff =>
    have hbegin : beginAttempt (returnFromError (pollSide s)) = pollSide (beginAttempt (returnFromError s)) :=
      beginAttempt_pollSide (returnFromError s)
    dsimp only
    rw [hbegin]
    split <;> rfl
  | convert => exact congrArg some (convertMove_pollSide s)
  | report => rfl

/-! ### A tick -/

theorem receptionTick_pollSide (before : State) (item : Option LinkItem) :
    receptionTick (pollSide before) item (pollSide s) = pollSide (receptionTick before item s) := by
  unfold receptionTick
  rw [receptionOver_pollSide]
  split
  · rfl
  · dsimp only
    split <;> rfl

theorem transportTick_pollSide (before : State) (item : Option LinkItem) :
    transportTick (pollSide before) item (pollSide s) = pollSide (transportTick before item s) := by
  unfold transportTick
  rw [pollSide_tr, pollSide_utx]
  cases before.tr.phase with
  | flush =>
    dsimp only
    split <;> rfl
  | rx => exact receptionTick_pollSide s before item
  | _ => rfl

/-- The tick is the same on the poll side (R328, R370). -/
theorem tick_pollSide : pollSide (tick s) = tickWith (rxdPort (pollSide s)) (pollSide s) :=
  (transportTick_pollSide (countedTick (rxdPort s) s) s (urxTick s.cfg (rxdPort s) s.urx).2).symm

end

/-! ### Two states with the same poll side -/

section
variable {s s' : State}

theorem tick_congr (h : pollSide s' = pollSide s) : pollSide (tick s') = pollSide (tick s) := by
  rw [tick_pollSide, tick_pollSide, h]

theorem pollMove_congr (h : pollSide s' = pollSide s) :
    (pollMove s').map (onNext pollSide) = (pollMove s).map (onNext pollSide) := by
  rw [← pollMove_pollSide, ← pollMove_pollSide, h]

theorem pollMove_none_congr (h : pollSide s' = pollSide s) (hnone : pollMove s = none) : pollMove s' = none := by
  have hmoves := pollMove_congr h
  rw [hnone] at hmoves
  exact Option.map_eq_none_iff.1 hmoves

theorem pollMove_next_congr (h : pollSide s' = pollSide s) {t : State} (ht : pollMove s = some (.next t)) :
    ∃ t', pollMove s' = some (.next t') ∧ pollSide t' = pollSide t := by
  have hmoves := pollMove_congr h
  rw [ht] at hmoves
  obtain ⟨o, ho, hnext⟩ := Option.map_eq_some_iff.1 hmoves
  obtain ⟨t', rfl, hside⟩ := onNext_eq_next hnext
  exact ⟨t', ho, hside⟩

end

end Sys2Proof.Proofs
end

section
/-! SUPPORT. The UI agent's move, the time a move takes, and whose move a step is (46_display_fsm.md R310, R328;
60_exceptions.md R361, R362, R370; log 9, log 11). -/

namespace Sys2Proof.Proofs

open Sys2Proof.Machine Sys2Proof.Laws

/-! ### The UI agent -/

section
variable {s s' : State}

theorem buttonEvent_disp_congr (hcfg : s'.cfg = s.cfg) (hdisp : s'.disp = s.disp) (p : Nat) :
    (buttonEvent s' p).disp = (buttonEvent s p).disp := by
  unfold buttonEvent
  rw [hcfg]
  split
  · rfl
  · rfl
  · exact hdisp

theorem events_disp_congr (hcfg : s'.cfg = s.cfg) (hdisp : s'.disp = s.disp) (ps : List Nat) :
    (ps.foldl buttonEvent s').disp = (ps.foldl buttonEvent s).disp := by
  induction ps generalizing s s' with
  | nil => exact hdisp
  | cons p ps ih =>
    have hcfg' : (buttonEvent s' p).cfg = (buttonEvent s p).cfg := by
      rw [buttonEvent_eq s' p, buttonEvent_eq s p]
      exact hcfg
    exact ih hcfg' (buttonEvent_disp_congr hcfg hdisp p)

theorem tickedDisp_congr (hcfg : s'.cfg = s.cfg) (hdb : s'.db = s.db) (hdisp : s'.disp = s.disp) (raw : List Bool) :
    tickedDisp raw s' = tickedDisp raw s := by
  rw [tickedDisp, tickedDisp, hcfg, hdb]
  generalize sampleAll s.cfg.debounceN raw s.db = smp
  rw [events_disp_congr (s := s.setDb smp.1) (s' := s'.setDb smp.1) hcfg hdisp]

/-- What a ui tick leaves the UI agent (R310). -/
theorem uiMove_uiSide (s : State) : uiSide (uiMove s) =
    { db := (sampleAll s.cfg.debounceN (rawOperand s) s.db).1
      disp := tickedDisp (rawOperand s) s
      blink := blinkTick s.cfg s.snap.alert s.blink
      out := { mode := (tickedDisp (rawOperand s) s).mode, meas := intentMeasurement s.snap,
               blink := (blinkTick s.cfg s.snap.alert s.blink).visible }
      ui := { s.ui with due := false } } := by
  rw [uiMove, uiTick_eq]
  rfl

/-- A ui tick reads the configuration, the UI agent's own elements, the slot and the buttons (R310, R370). -/
theorem uiMove_uiSide_congr (hcfg : s'.cfg = s.cfg) (hui : uiSide s' = uiSide s) (hsnap : s'.snap = s.snap)
    (hraw : rawOperand s' = rawOperand s) : uiSide (uiMove s') = uiSide (uiMove s) := by
  obtain ⟨hdb, hdisp, hblink, -, hclock⟩ := UiSide.mk.inj hui
  rw [uiMove_uiSide, uiMove_uiSide, hraw, tickedDisp_congr hcfg hdb hdisp, hcfg, hdb, hblink, hsnap, hclock]

theorem uiMove_pollSide (s : State) : pollSide (uiMove s) = pollSide s := uiTick_pollSide (rawOperand s) s

theorem uiMove_now (s : State) : (uiMove s).now = s.now := by
  rw [← pollSide_now (uiMove s), uiMove_pollSide, pollSide_now]

/-- The block's own ui tick is the operation UI.TICK, and no tick is due any more (R310, R360). -/
theorem uiMove_uiSide_of_exec {t : State} (h : exec (.uiTick (rawOperand s)) s = .next t) :
    uiSide (uiMove s) = { uiSide t with ui := { s.ui with due := false } } := by
  cases h
  rw [uiMove_uiSide, uiTick_eq]
  rfl

end

/-! ### A move of the poll agent takes no time -/

section
variable {s t : State}

theorem beginAttempt_now (s : State) : (beginAttempt s).now = s.now := by
  rcases beginAttempt_cases s with ⟨_, e⟩ | ⟨_, e⟩ <;> rw [e] <;> rfl

theorem afterAttempt_now (o : AttemptResult) (s : State) : (afterAttempt o s).now = s.now := by
  rcases afterAttempt_cases o s with ⟨_, _, e⟩ | ⟨_, e⟩ | ⟨_, _, e⟩ | ⟨_, _, e⟩ <;> rw [e] <;> rfl

theorem handByte_now (d : Byte) (s : State) : (handByte d s).now = s.now := by
  have hload : (loadChar d s).now = s.now := rfl
  rw [handByte]
  generalize loadChar d s = w at *
  dsimp only
  split <;> exact hload

theorem takeResult_now (h : takeResult s = .next t) : t.now = s.now := by
  rcases takeResult_next h with rfl | ⟨e, rfl⟩
  · rfl
  · exact afterAttempt_now _ s

theorem transactMove_now (h : transactMove s = some (.next t)) : t.now = s.now := by
  rcases transactMove_cases s h with ⟨_, ⟨⟩⟩ | ⟨_, _, ⟨⟩⟩ | ⟨_, _, _, ⟨⟩⟩ | ⟨d, _, _, _, _, ⟨⟩⟩ | ⟨_, _, _, _, ⟨⟩⟩ |
    ⟨_, _, ⟨⟩⟩ | ⟨_, _, ⟨⟩⟩ | ⟨_, _, e⟩
  · rfl
  · rfl
  · rfl
  · exact handByte_now d s
  · rfl
  · rfl
  · exact takeResult_now e.symm

theorem decodeMove_now (h : decodeMove s = .next t) : t.now = s.now := by
  obtain ⟨bytes, _, rfl⟩ := decodeMove_next h
  obtain ⟨crc, frame, valid, e⟩ := decodeInto_eq bytes s.cfg.slaveId (countOperand s.cfg) s
  rw [afterAttempt_now, e]

/-- Moves take no time (log 11). -/
theorem pollMove_now (h : pollMove s = some (.next t)) : t.now = s.now := by
  rcases pollMove_cases s h with ⟨_, _, ⟨⟩⟩ | ⟨_, ⟨⟩⟩ | ⟨_, ht⟩ | ⟨_, ht⟩ | ⟨_, _, ⟨⟩⟩ | ⟨_, ht⟩ | ⟨_, ⟨⟩⟩
  · rfl
  · exact beginAttempt_now (encoded s)
  · exact transactMove_now ht
  · exact decodeMove_now ht.symm
  · exact beginAttempt_now (returnFromError s)
  · obtain ⟨_, _, _, _, rfl⟩ := convertMove_next ht.symm
    rfl
  · rfl

/-! ### Ticks -/

/-- A tick is, for the UI agent, one count of its divider (R9, R360). -/
theorem tick_uiSide (s : State) : uiSide (tick s) = { uiSide s with ui := dividerTick s.cfg s.ui } :=
  congrArg (fun u : UiSide => { u with ui := dividerTick s.cfg s.ui }) (tickWith_frame (rxdPort s) s).ui

theorem tick_now (s : State) : (tick s).now = s.now + 1 := tickWith_now (rxdPort s) s

/-! ### Whose move it is -/

/-- Without a word and without `rst` the step of a well-formed block is its own (R13, log 1). -/
theorem step_eq_autoStep (hc : cfgWf s.cfg = true) (hp : s.env.pend = []) (hr : rstPort s = false) :
    step s = autoStep s := by
  have hword : fetchWord s = none := by rw [fetchWord, hp]; rfl
  rw [step, if_pos hc, hr, hword]
  rfl

theorem autoStep_of_none (h : pollMove s = none) : autoStep s = .next (if s.ui.due then uiMove s else tick s) := by
  rw [autoStep, h]

theorem autoStep_of_notDue {o : Host.Outcome State Fault Refusal} (h : pollMove s = some o) (hdue : s.ui.due = false) :
    autoStep s = o := by
  rw [autoStep, h, hdue]
  rfl

/-- With both agents able to move, the draw says who does (R361). -/
theorem autoStep_of_draw {o : Host.Outcome State Fault Refusal} (h : pollMove s = some o) (hdue : s.ui.due = true)
    {first : Bool} {rest : List Bool} (hdraw : s.env.orderNext = first :: rest) :
    autoStep s = if first then .next (uiMove (dropDraw s))
      else (pollMove (dropDraw s)).getD (.next (uiMove (dropDraw s))) := by
  have hfirst : uiGoesFirst s = first := by rw [uiGoesFirst, hdraw]; rfl
  rw [autoStep, h, hdue, hfirst]
  rfl

/-- Neither agent sees the draw, so that the one it names does what it would have done without it. -/
theorem autoStep_draw_sides (h : pollMove s = some (.next t)) (hdue : s.ui.due = true) {first : Bool} {rest : List Bool}
    (hdraw : s.env.orderNext = first :: rest) :
    ∃ t', autoStep s = .next t' ∧ (first = true → uiSide t' = uiSide (uiMove s) ∧ pollSide t' = pollSide s) ∧
      (first = false → pollSide t' = pollSide t ∧ uiSide t' = uiSide s) := by
  rw [autoStep_of_draw h hdue hdraw]
  cases first with
  | true =>
    have hui : uiSide (uiMove (dropDraw s)) = uiSide (uiMove s) := uiMove_uiSide_congr rfl rfl rfl rfl
    exact ⟨_, rfl, fun _ => ⟨hui, uiMove_pollSide (dropDraw s)⟩, nofun⟩
  | false =>
    obtain ⟨t', ht', hside⟩ := pollMove_next_congr (s := s) (s' := dropDraw s) rfl h
    have hui : uiSide t' = uiSide s := pollMove_uiSide (s := dropDraw s) ht'
    exact ⟨t', by rw [ht']; rfl, nofun, fun _ => ⟨hside, hui⟩⟩

/-- While a ui tick is due the step is a move of one of the agents, and moves take no time (log 11). -/
theorem autoStep_now (hdue : s.ui.due = true) (h : autoStep s = .next t) : t.now = s.now := by
  rcases autoStep_cases s with ⟨_, hd, _⟩ | ⟨_, _, e⟩ | ⟨_, _, hd, _⟩ | ⟨_, _, _, _, e⟩ | ⟨_, _, _, _, e⟩
  · exact absurd (hd.symm.trans hdue) nofun
  · rw [e] at h
    cases h
    exact uiMove_now s
  · exact absurd (hd.symm.trans hdue) nofun
  · rw [e] at h
    cases h
    exact uiMove_now (dropDraw s)
  · rw [e] at h
    cases hmove : pollMove (dropDraw s) with
    | none =>
      rw [hmove] at h
      cases h
      exact uiMove_now (dropDraw s)
    | some o =>
      rw [hmove] at h
      exact pollMove_now (s := dropDraw s) (h ▸ hmove)

end

/-- Settles O59: the agents' moves and the tick each commute with blanking out what the other agent owns, and the step is one of
them. -/
theorem agentsDoNotDisturbEachOther : Obligations.AgentsDoNotDisturbEachOther :=
  ⟨fun _ _ h => uiMove_uiSide_of_exec h,
   fun s => ⟨uiMove_pollSide s, rfl⟩,
   fun _ _ hcfg hui hsnap hraw => uiMove_uiSide_congr hcfg hui hsnap hraw,
   fun _ _ h => ⟨pollMove_uiSide h, pollMove_now h⟩,
   fun s => ⟨tick_uiSide s, tick_now s⟩,
   fun _ _ h => ⟨tick_congr h, pollMove_none_congr h, fun _ => pollMove_next_congr h⟩,
   fun _ _ hp hr hdue h => autoStep_now hdue (autoStep_of_step hp hr h),
   fun _ hc hp hr =>
    ⟨fun hnone => (step_eq_autoStep hc hp hr).trans (autoStep_of_none hnone),
     fun _ ho hdue => (step_eq_autoStep hc hp hr).trans (autoStep_of_notDue ho hdue),
     fun _ _ _ ht hdue hdraw => by
      rw [step_eq_autoStep hc hp hr]
      exact autoStep_draw_sides ht hdue hdraw⟩⟩

end Sys2Proof.Proofs
end

section
/-! SUPPORT. The block by itself goes on: every move, every tick and every ui tick leaves what the phase after it presupposes, and
what a phase presupposes lets its move answer a next state (70_reset_and_hazards.md R426; 43_modbus_master.md R251). -/

namespace Sys2Proof.Proofs

open Sys2Proof.Machine Sys2Proof.Laws

/-- From `s` the block has come to `t`, and can go on from there: the configuration and the words to come are those of `s`, and
the phase `t` is in finds what it presupposes. -/
structure ReadyAfter (s t : State) : Prop where
  cfg : t.cfg = s.cfg
  pend : t.env.pend = s.env.pend
  ready : PollInv t

theorem readyAfter_trans {s t u : State} (h : ReadyAfter s t) (k : ReadyAfter t u) : ReadyAfter s u :=
  ⟨k.cfg.trans h.cfg, k.pend.trans h.pend, k.ready⟩

section
variable {s t : State}

/-! ### What the phases presuppose -/

theorem pollInv_of_rest (h : t.mst.phase = .wait ∨ t.mst.phase = .encode ∨ t.mst.phase = .report) : PollInv t := by
  rcases h with h | h | h <;> simp [PollInv, h]

/-- With the request in `TX` every phase but CONVERT finds what it presupposes. -/
theorem pollInv_of_request (hreq : t.tx.map Prod.fst = List.range 8) (hp : t.mst.phase ≠ .convert) : PollInv t :=
  ⟨fun _ => hreq, fun h => absurd h hp⟩

theorem readyAfter_of_pollFrame (f : PollFrame s t) (h : PollInv t) : ReadyAfter s t := ⟨f.cfg, f.pend, h⟩

/-- The Transport and the UART take nothing from the master. -/
theorem readyAfter_of_linkFrame (f : LinkFrame s t) (h : PollInv s) : ReadyAfter s t := by
  refine readyAfter_of_pollFrame f.toPollFrame ?_
  rw [PollInv, f.mst, f.tx, f.regframe, f.regframeValid, f.cfg]
  exact h

/-- The phases presuppose nothing of what the UI agent owns (R370). -/
theorem readyAfter_of_pollSide (h : pollSide t = pollSide s) (hr : PollInv s) : ReadyAfter s t := by
  have hside : ReadyAfter s (pollSide s) := ⟨rfl, rfl, hr⟩
  rw [← h] at hside
  exact ⟨hside.cfg, hside.pend, hside.ready⟩

/-! ### The elements a move reads hold a value (R64) -/

/-- The bytes received can be read whole (R23). -/
theorem rxOperand_of_inv (h : Inv s) : ∃ bytes, rxOperand s = some bytes := by
  obtain ⟨_, hkeys, _⟩ := h.buffers
  exact ⟨_, readN_of_keys hkeys⟩

/-- While request bytes are left, the next one can be read (R22, R195). -/
theorem txByte_ne_none (hreq : s.tx.map Prod.fst = List.range 8) (hn : s.tr.txidx < 8) : txByte s ≠ none := by
  intro hnone
  have hread : txOperand s = some (s.tx.map Prod.snd) := readN_of_keys hreq
  exact absurd ((txOperand_eq_none hn hnone).symm.trans hread) nofun

/-! ### The end of an attempt -/

theorem afterAttempt_frame (o : AttemptResult) (s : State) : PollFrame s (afterAttempt o s) := by
  rcases afterAttempt_cases o s with ⟨_, _, e⟩ | ⟨_, e⟩ | ⟨_, _, e⟩ | ⟨_, _, e⟩ <;> rw [e] <;> exact setMst_frame s _

/-- Only a success goes on to CONVERT, with the frame it has decoded (R242, R248). -/
theorem afterAttempt_ready {o : AttemptResult} (hreq : s.tx.map Prod.fst = List.range 8)
    (hframe : ∀ f, verdict o = .success f → s.regframeValid = true ∧ s.regframe.length = s.cfg.count) :
    PollInv (afterAttempt o s) := by
  rcases afterAttempt_cases o s with ⟨f, hv, e⟩ | ⟨_, e⟩ | ⟨_, _, e⟩ | ⟨_, _, e⟩ <;> rw [e]
  · exact ⟨fun _ => hreq, fun _ => hframe f hv⟩
  · exact pollInv_of_request hreq nofun
  · exact pollInv_of_request hreq nofun
  · exact pollInv_of_request hreq nofun

theorem takeResult_readyAfter (h : Inv s) (hreq : s.tx.map Prod.fst = List.range 8) :
    ∃ t, takeResult s = .next t ∧ ReadyAfter s t := by
  obtain ⟨bytes, hrx⟩ := rxOperand_of_inv h
  obtain ⟨t, ht, _⟩ := takeResult_spec hrx
  refine ⟨t, ht, ?_⟩
  rcases takeResult_next ht with rfl | ⟨e, rfl⟩
  · exact readyAfter_of_pollFrame (setMst_frame s _) (pollInv_of_request hreq nofun)
  · refine readyAfter_of_pollFrame (afterAttempt_frame _ s) (afterAttempt_ready hreq fun f hv => ?_)
    exact absurd ((verdict_transport e).symm.trans hv) nofun

/-- A frame that DECODE accepts has the `COUNT` registers CONVERT presupposes (R172, R248). -/
theorem decodeMove_readyAfter (hc : CfgFacts s.cfg) (h : Inv s) (hreq : s.tx.map Prod.fst = List.range 8) :
    ∃ t, decodeMove s = .next t ∧ ReadyAfter s t := by
  obtain ⟨bytes, hrx⟩ := rxOperand_of_inv h
  have hkept : (decodeInto bytes s.cfg.slaveId (countOperand s.cfg) s).1.tx.map Prod.fst = List.range 8 := by
    obtain ⟨_, _, _, e⟩ := decodeInto_eq bytes s.cfg.slaveId (countOperand s.cfg) s
    rw [e]
    exact hreq
  have f := decodeInto_frame bytes s.cfg.slaveId (countOperand s.cfg) s
  refine ⟨_, decodeMove_of_some hrx, readyAfter_of_pollFrame (pollFrame_trans f (afterAttempt_frame _ _))
    (afterAttempt_ready hkept fun regs hv => ?_)⟩
  have hok := AttemptResult.decoded.inj (verdict_success hv)
  rw [decodeInto_of_ok hok]
  exact ⟨rfl, (decodeResponse_length hok).trans (countOperand_toNat hc)⟩

/-! ### The moves -/

theorem beginAttempt_ready (hreq : s.tx.map Prod.fst = List.range 8) (hp : s.mst.phase = .transact) :
    PollInv (beginAttempt s) := by
  obtain ⟨hphase, _, htx, _⟩ := beginAttempt_master s
  exact pollInv_of_request (htx ▸ hreq) (by rw [hphase, hp]; nofun)

/-- ENCODE leaves the request in `TX` (R160). -/
theorem encodeMove_readyAfter (h : Inv s) : ReadyAfter s (encodeMove s) := by
  obtain ⟨hkeys, _⟩ := h.buffers
  have hreq : (encoded s).tx.map Prod.fst = List.range 8 := keys_writeN_tx hkeys _ (requestBytes_length _ _ _)
  have f : PollFrame s (encoded s) := pollFrame_trans (encodeRequest_frame _ _ _ s) (setMst_frame _ _)
  rw [encodeMove_eq]
  exact readyAfter_of_pollFrame (pollFrame_trans f (beginAttempt_frame _)) (beginAttempt_ready hreq rfl)

theorem handByte_frame (d : Byte) (s : State) : SendFrame s (handByte d s) := by
  have f := sendFrame_trans (loadChar_frame d s)
    (setTr_frame (loadChar d s) { (loadChar d s).tr with txidx := (loadChar d s).tr.txidx + 1 })
  rw [handByte]
  dsimp only
  split
  · exact sendFrame_trans f (enterPhase_frame _ .flush)
  · exact f

/-- The moves of a transaction under way need the request in phase TX and the bytes received in phase DONE (R195, R202). -/
theorem transactMove_readyAfter (h : Inv s) (hr : PollInv s) (hp : s.mst.phase = .transact)
    {o : Host.Outcome State Fault Refusal} (ho : transactMove s = some o) : ∃ t, o = .next t ∧ ReadyAfter s t := by
  have hreq := hr.1 (.inl hp)
  rcases transactMove_cases s ho with ⟨_, rfl⟩ | ⟨_, _, rfl⟩ | ⟨_, _, _, rfl⟩ | ⟨d, _, _, _, _, rfl⟩ |
    ⟨_, _, hn, hnone, rfl⟩ | ⟨_, _, rfl⟩ | ⟨_, _, rfl⟩ | ⟨_, _, rfl⟩
  · exact ⟨_, rfl, readyAfter_of_pollFrame (startTransaction_frame s)
      (pollInv_of_request hreq fun hconvert => absurd (hp.symm.trans hconvert) nofun)⟩
  · exact ⟨_, rfl, readyAfter_of_linkFrame (assertDir_frame s).toLinkFrame hr⟩
  · exact ⟨_, rfl, readyAfter_of_linkFrame (enterPhase_frame s .flush).toLinkFrame hr⟩
  · exact ⟨_, rfl, readyAfter_of_linkFrame (handByte_frame d s).toLinkFrame hr⟩
  · exact absurd hnone (txByte_ne_none hreq hn)
  · exact ⟨_, rfl, readyAfter_of_linkFrame (receiveEnable_frame s) hr⟩
  · exact ⟨_, rfl, readyAfter_of_linkFrame (enterPhase_frame s .done).toLinkFrame hr⟩
  · exact takeResult_readyAfter h hreq

/-- CONVERT finds its frame, with both registers in it (R64, R241, R271). -/
theorem convertMove_readyAfter (hc : CfgFacts s.cfg) (hvalid : s.regframeValid = true) (hlen : s.regframe.length = s.cfg.count) :
    ∃ t, convertMove s = .next t ∧ ReadyAfter s t := by
  obtain ⟨t, ht⟩ := convertPublish_of_length (f := s.regframe) (s := s) (hlen ▸ hc.vIdx) (hlen ▸ hc.iIdx)
  rw [← convertMove_of_valid hvalid] at ht
  obtain ⟨_, _, _, _, rfl⟩ := convertMove_next ht
  exact ⟨_, ht, rfl, rfl, pollInv_of_rest (.inr (.inr rfl))⟩

/-- No move of the poll agent from a sound state is a fault or a refusal. -/
theorem pollMove_readyAfter (hc : CfgFacts s.cfg) (h : Inv s) (hr : PollInv s) {o : Host.Outcome State Fault Refusal}
    (ho : pollMove s = some o) : ∃ t, o = .next t ∧ ReadyAfter s t := by
  have ⟨hrequest, hframe⟩ := hr
  rcases pollMove_cases s ho with ⟨_, _, rfl⟩ | ⟨_, rfl⟩ | ⟨hp, ho⟩ | ⟨hp, rfl⟩ | ⟨hp, _, rfl⟩ | ⟨hp, rfl⟩ | ⟨_, rfl⟩
  · exact ⟨_, rfl, readyAfter_of_pollFrame (setMst_frame s _) (pollInv_of_rest (.inr (.inl rfl)))⟩
  · exact ⟨_, rfl, encodeMove_readyAfter h⟩
  · exact transactMove_readyAfter h hr hp ho
  · exact decodeMove_readyAfter hc h (hrequest (.inr (.inr hp)))
  · exact ⟨_, rfl, readyAfter_of_pollFrame (pollFrame_trans (setMst_frame s _) (beginAttempt_frame _))
      (beginAttempt_ready (s := returnFromError s) (hrequest (.inr (.inl hp))) rfl)⟩
  · obtain ⟨hvalid, hlen⟩ := hframe hp
    exact convertMove_readyAfter hc hvalid hlen
  · exact ⟨_, rfl, rfl, rfl, pollInv_of_rest (.inl rfl)⟩

/-! ### The step -/

@[simp] theorem countedTick_regframe (rxd : Bool) (s : State) : (countedTick rxd s).regframe = s.regframe := by
  simp [countedTick, uartTick]
@[simp] theorem countedTick_regframeValid (rxd : Bool) (s : State) :
    (countedTick rxd s).regframeValid = s.regframeValid := by
  simp [countedTick, uartTick]

/-- Counting leaves the master its phase (R28). -/
theorem countedTick_readyAfter (rxd : Bool) (hr : PollInv s) : ReadyAfter s (countedTick rxd s) := by
  refine readyAfter_of_pollFrame (countedTick_frame rxd s) ?_
  rw [PollInv, countedTick_mst, countedTick_tx, countedTick_regframe, countedTick_regframeValid, countedTick_cfg]
  exact hr

theorem tick_readyAfter (hr : PollInv s) : ReadyAfter s (tick s) := by
  have hcounted := countedTick_readyAfter (rxdPort s) hr
  have hticked := readyAfter_trans hcounted (readyAfter_of_linkFrame
    (transportTick_frame s (urxTick s.cfg (rxdPort s) s.urx).2 (countedTick (rxdPort s) s)) hcounted.ready)
  exact ⟨hticked.cfg, hticked.pend, hticked.ready⟩

theorem uiMove_readyAfter (hr : PollInv s) : ReadyAfter s (uiMove s) := readyAfter_of_pollSide (uiMove_pollSide s) hr

theorem autoStep_readyAfter (hc : CfgFacts s.cfg) (h : Inv s) (hr : PollInv s) :
    ∃ t, autoStep s = .next t ∧ ReadyAfter s t := by
  have hdrawn : ReadyAfter s (dropDraw s) := readyAfter_of_pollSide rfl hr
  have huiDrawn : ReadyAfter s (uiMove (dropDraw s)) := readyAfter_trans hdrawn (uiMove_readyAfter hdrawn.ready)
  rcases autoStep_cases s with ⟨_, _, e⟩ | ⟨_, _, e⟩ | ⟨o, ho, _, e⟩ | ⟨_, _, _, _, e⟩ | ⟨_, _, _, _, e⟩ <;> rw [e]
  · exact ⟨_, rfl, tick_readyAfter hr⟩
  · exact ⟨_, rfl, uiMove_readyAfter hr⟩
  · exact pollMove_readyAfter hc h hr ho
  · exact ⟨_, rfl, huiDrawn⟩
  · cases ho : pollMove (dropDraw s) with
    | none => exact ⟨_, rfl, huiDrawn⟩
    | some o =>
      obtain ⟨t, rfl, ht⟩ := pollMove_readyAfter (s := dropDraw s) hc (inv_setEnv h _) hdrawn.ready ho
      exact ⟨t, rfl, readyAfter_trans hdrawn ht⟩

/-- Without a word presented the step answers: the reset of a tick with `rst` at 1, or the block's own step (R400, R426). -/
theorem step_readyAfter (hwf : cfgWf s.cfg = true) (h : Inv s) (hr : PollInv s) (hp : s.env.pend = []) :
    ∃ t, step s = .next t ∧ ReadyAfter s t := by
  cases hrst : rstPort s with
  | true => exact ⟨_, step_of_rst hwf hrst, rfl, rfl, resetOf_pollInv _ _⟩
  | false =>
    rw [step_eq_autoStep hwf hp hrst]
    exact autoStep_readyAfter ((cfgWf_iff s.cfg).1 hwf) h hr

theorem runSteps_succ (hstep : step s = .next t) (n : Nat) : runSteps (n + 1) s = runSteps n t := by
  rw [runSteps, hstep]

end

/-- Settles O10, by induction on the number of steps: each answers, and leaves what the next one needs. -/
theorem theBlockNeverStops : Obligations.TheBlockNeverStops := by
  intro n
  induction n with
  | zero => exact fun s _ h hr hp => ⟨s, rfl, h, hr, hp⟩
  | succ n ih =>
    intro s hwf h hr hp
    obtain ⟨t, hstep, hgo⟩ := step_readyAfter hwf h hr hp
    rw [runSteps_succ hstep]
    exact ih t (hgo.cfg ▸ hwf) (step_inv h t hstep) hgo.ready (hgo.pend.trans hp)

end Sys2Proof.Proofs
end

section
/-! SUPPORT. How long a transaction lasts on an idle line (70_reset_and_hazards.md R421; 42_transport_uart.md R193 to R199). -/

namespace Sys2Proof.Proofs

open Sys2Proof.Machine Sys2Proof.Laws

theorem t35Ticks_pos {c : Cfg} (hc : CfgFacts c) : 0 < t35Ticks c := by
  have := charTicks_pos hc
  have := t35Ticks_spec c
  omega

/-- On an idle line the gap is what `tr.idle_cnt` still lacks of `T35_TICKS`. The tick that leaves DONE counts for it, or is the
whole wait if nothing was lacking (R191, R193, R209). -/
theorem waitGap_now_of_idle {s : State} (hc : CfgFacts s.cfg) (hfree : s.utx.busy = false) (hline : s.env.line = []) :
    ∃ n, n ≤ t35Ticks s.cfg ∧ (waitGap s).now = s.now + BitVec.ofNat 64 n := by
  have ht := t35Ticks_pos hc
  rw [waitGap, drain_idle hfree, idlePass_now, enterPhase_now, enterPhase_cfg, enterPhase_env, enterPhase_idleCnt]
  by_cases hdone : s.tr.phase = .done
  · have hcnt : (idlePass 1 s).tr.idleCnt = min (t35Ticks s.cfg) (s.tr.idleCnt + 1) := by
      have hidle : (idlePass 1 s).tr.idleCnt = idleAfter (t35Ticks s.cfg) s.tr.idleCnt s.env.line 1 := rfl
      rw [hidle, hline]
      rfl
    have hrest : (idlePass 1 s).env.line = [] := by rw [idlePass_env, hline]; rfl
    rw [leaveDone_done hdone, idlePass_now, idlePass_cfg, hcnt, hrest, gapTicks, add_ofNat_add]
    exact ⟨_, by omega, rfl⟩
  · rw [leaveDone_rest hdone, hline, gapTicks]
    exact ⟨_, Nat.sub_le _ _, rfl⟩

theorem requested_frame (req : List Byte) (m : Nat) (s : State) : SendFrame s (requested req m s) :=
  sendFrame_trans (waitGap_frame s) (sendFrame_trans (setTr_frame _ _) (sendFrame_trans (assertDir_frame _)
    (sendFrame_trans (writeRequest_frame req _) (flushTx_frame _))))

/-- With a free transmitter the request's characters go out back to back, and the flush has nothing left to wait for (R194 to
R196). -/
theorem flushTx_writeRequest_now {req : List Byte} (hne : req ≠ []) {s : State} (hc : CfgFacts s.cfg)
    (hfree : s.utx.busy = false) : (flushTx (writeRequest req (assertDir s))).now =
      s.now + BitVec.ofNat 64 (req.length * charTicks s.cfg) := by
  have hpending : pendingLevels (assertDir s) = [] := pendingLevels_of_free hfree
  have hsent := foldl_sendCounted_sent hne (s := assertDir s) (charBits_le_twelve hc)
  have hnow := hsent.now
  rw [← writeRequest_assertDir] at hsent hnow
  rw [hpending, List.length_nil, Nat.zero_add] at hnow
  have hsilent : ((writeRequest req (assertDir s)).enterPhase .flush).utx.busy = false := by
    rw [enterPhase_utx, hsent.utx]
    rfl
  rw [flushTx, drain_idle hsilent, enterPhase_now, hnow]
  rfl

theorem requested_now {req : List Byte} (hne : req ≠ []) (m : Nat) {s : State} (hc : CfgFacts s.cfg) :
    (requested req m s).now = (waitGap s).now + BitVec.ofNat 64 (req.length * charTicks s.cfg) := by
  obtain ⟨_, _, hutx, _⟩ := waitGap_spec s
  have hcfg := (waitGap_frame s).cfg
  have hfree : (waitGap s).utx.busy = false := (congrArg Utx.busy hutx).trans (drain_busy s)
  rw [← hcfg] at hc ⊢
  rw [requested]
  generalize waitGap s = w at hc hfree ⊢
  exact flushTx_writeRequest_now (s := w.setTr { w.tr with maxLen := m }) hne hc hfree

/-- From the end of the request on: a tick for the release, the turnaround, the reception (R197 to R199). -/
theorem transact_now (req : List Byte) (m : Nat) (s : State) : (transact req m s).1.now = (requested req m s).now +
    BitVec.ofNat 64 (1 + s.cfg.turnaround + (reception m (enableReceive (requested req m s))).endTick) := by
  have hfree : (requested req m s).utx.busy = false := flushTx_busy _
  have hcfg : (requested req m s).cfg = s.cfg := (requested_frame req m s).cfg
  obtain ⟨_, _, _, _, _, hread, _⟩ := readResponse_spec m (enableReceive (requested req m s))
  obtain ⟨_, _, _, _, _, _, _, _, _, henable, _⟩ := receiveEnable_spec (turned (requested req m s))
  rw [← enableReceive_eq] at henable
  rw [transact_eq, hread, henable, turned_now, pendingLevels_of_free hfree, add_ofNat_add, hcfg, List.length_nil, Nat.zero_add]

/-- A reception is bounded by the response timeout (R199, R207). -/
theorem reception_endTick_le {m : Nat} (hm : 1 ≤ m) (s : State) : (reception m s).endTick ≤ s.cfg.respTimeout := by
  obtain ⟨hbound, _, _⟩ := receiveLoop_spec (rxBounds s.cfg m) 0 false [] false (heard s) (Nat.zero_le _) hm
  exact hbound

/-- Settles O39: the bounds of the gap, the request, the turnaround and the reception add up; a full answer in time is received
whole. -/
theorem transactionLength : Obligations.TransactionLength := by
  refine ⟨fun s req m hwf hm hlen hfree hline => ?_, fun c g bytes hwf hne htime => ?_⟩
  · have hc := (cfgWf_iff s.cfg).1 hwf
    obtain ⟨n, hn, hgap⟩ := waitGap_now_of_idle hc hfree hline
    have hne : req ≠ [] := List.ne_nil_of_length_pos (by omega)
    have hend := reception_endTick_le hm (enableReceive (requested req m s))
    have hcfg : (enableReceive (requested req m s)).cfg = s.cfg :=
      (enableReceive_frame _).cfg.trans (requested_frame req m s).cfg
    have hnow := transact_now req m s
    rw [requested_now hne m hc, hgap, add_ofNat_add, add_ofNat_add, hlen] at hnow
    rw [hcfg] at hend
    exact ⟨_, _, rfl, (setRes_now _ _).trans hnow, by omega⟩
  · have hwhole := receiveLoop_answerOf (b := rxBounds c bytes.length) (t35Ticks_pos ((cfgWf_iff c).1 hwf)) hne false (t := 0)
      (seen := false) (acc := []) nofun (by rw [Nat.zero_add]; exact htime) (Nat.zero_add _)
    rwa [List.nil_append, Nat.zero_add] at hwhole

end Sys2Proof.Proofs
end

section
/-! SUPPORT. The startup sequence from reset while no button is pressed (70_reset_and_hazards.md R424; 46_display_fsm.md R314,
R315). -/

namespace Sys2Proof.Proofs

open Sys2Proof.Machine Sys2Proof.Laws

/-! ### No button is pressed -/

/-- Every monitored pin is released, with nothing counted (R33, R43). -/
def Released (db : List (Nat × PinState)) : Prop := ∀ e ∈ db, e.2 = { stable := false, cnt := 0 }

theorem resetOf_released (c : Cfg) (e : Env) : Released (State.resetOf c e).db := List.forall_mem_map.2 fun _ _ => rfl

theorem rawLevel_of_released {raw : List Bool} (h : ∀ level ∈ raw, level = false) (p : Nat) : rawLevel raw p = false := by
  rw [rawLevel, List.getD_eq_getElem?_getD]
  cases hp : raw[p]? with
  | none => rfl
  | some level => exact h level (List.mem_of_getElem? hp)

/-- Samples at 0 of released pins change nothing and emit no event (R292). -/
theorem sampleAll_released (n : Nat) {raw : List Bool} (h : ∀ level ∈ raw, level = false) {db : List (Nat × PinState)}
    (hdb : Released db) : sampleAll n raw db = (db, []) := by
  induction db with
  | nil => rfl
  | cons e db ih =>
    obtain ⟨p, st⟩ := e
    obtain ⟨hst, hrest⟩ := List.forall_mem_cons.1 hdb
    have hsample : samplePin n (rawLevel raw p) st = (st, false) := by
      obtain rfl : st = _ := hst
      rw [rawLevel_of_released h]
      exact samplePin_of_eq rfl
    rw [sampleAll, hsample, ih hrest]
    rfl

/-! ### The sequence -/

/-- The display `k` startup ticks after reset (R314, R315). -/
def startupDisp (c : Cfg) (k : Nat) : Disp :=
  if k < c.nMedia * c.startupN then { mode := .startup (k / c.startupN), dwell := k % c.startupN }
  else { mode := .sensor, dwell := 0 }

theorem startupDisp_zero {c : Cfg} (hc : CfgFacts c) : startupDisp c 0 = { mode := .startup 0, dwell := 0 } := by
  rw [startupDisp, if_pos (Nat.mul_pos hc.nMedia hc.startupN), Nat.zero_div, Nat.zero_mod]

/-- A startup tick takes the display from `k` to `k + 1`: the step is the quotient and the dwell the remainder by `STARTUP_N`. -/
theorem dwellTick_startupDisp {c : Cfg} (hn : 1 ≤ c.startupN) (k : Nat) :
    dwellTick c (startupDisp c k) = startupDisp c (k + 1) := by
  by_cases hk : k < c.nMedia * c.startupN
  · have hlt : k % c.startupN < c.startupN := Nat.mod_lt k hn
    have hsum : k % c.startupN + c.startupN * (k / c.startupN) = k := Nat.mod_add_div k c.startupN
    have hstep : (k + 1) / c.startupN < c.nMedia ↔ k + 1 < c.nMedia * c.startupN := Nat.div_lt_iff_lt_mul hn
    rw [startupDisp, if_pos hk, dwellTick_of_startup rfl, startupDisp]
    by_cases hfull : c.startupN ≤ k % c.startupN + 1
    · obtain ⟨hdiv, hmod⟩ : (k + 1) / c.startupN = k / c.startupN + 1 ∧ (k + 1) % c.startupN = 0 := by
        rw [Nat.div_mod_unique hn]
        exact ⟨by rw [Nat.mul_succ]; omega, hn⟩
      rw [if_pos hfull]
      by_cases hlast : c.nMedia ≤ k / c.startupN + 1
      · rw [if_pos hlast, if_neg]
        rw [← hstep, hdiv]
        omega
      · rw [if_neg hlast, if_pos, hdiv, hmod]
        rw [← hstep, hdiv]
        omega
    · obtain ⟨hdiv, hmod⟩ : (k + 1) / c.startupN = k / c.startupN ∧ (k + 1) % c.startupN = k % c.startupN + 1 := by
        rw [Nat.div_mod_unique hn]
        exact ⟨by omega, by omega⟩
      rw [if_neg hfull, if_pos, hdiv, hmod]
      rw [← hstep, hdiv]
      exact (Nat.div_lt_iff_lt_mul hn).2 hk
  · rw [startupDisp, if_neg hk, dwellTick_of_left rfl, startupDisp, if_neg fun h => hk (Nat.lt_of_succ_lt h)]

/-! ### The ui ticks -/

/-- `s` has configuration `c` and is `k` ui ticks away from reset, none of which has found a button pressed. -/
structure StartingUp (c : Cfg) (k : Nat) (s : State) : Prop where
  cfg : s.cfg = c
  released : Released s.db
  disp : s.disp = startupDisp c k
  mode : s.out.mode = s.disp.mode

theorem resetOf_startingUp {c : Cfg} (hc : CfgFacts c) (e : Env) : StartingUp c 0 (State.resetOf c e) :=
  ⟨rfl, resetOf_released c e, (startupDisp_zero hc).symm, rfl⟩

/-- A ui tick without a press is a startup tick (R310, R315). -/
theorem uiTick_startingUp {c : Cfg} (hn : 1 ≤ c.startupN) {k : Nat} {s : State} (hs : StartingUp c k s) {raw : List Bool}
    (hraw : ∀ level ∈ raw, level = false) : StartingUp c (k + 1) ((uiTick raw s).setRes .none) := by
  have hsamples := sampleAll_released s.cfg.debounceN hraw hs.released
  have hticked : tickedDisp raw s = startupDisp c (k + 1) := by
    rw [tickedDisp, hsamples, hs.cfg]
    exact (congrArg (dwellTick c) hs.disp).trans (dwellTick_startupDisp hn k)
  rw [uiTick_eq]
  exact ⟨hs.cfg, (congrArg Prod.fst hsamples).symm ▸ hs.released, hticked, rfl⟩

theorem runAll_uiTicks {c : Cfg} (hn : 1 ≤ c.startupN) {raws : List (List Bool)}
    (hraws : ∀ raw ∈ raws, ∀ level ∈ raw, level = false) {k : Nat} {s : State} (hs : StartingUp c k s) :
    ∃ t, runAll (raws.map .uiTick) s = .next t ∧ StartingUp c (k + raws.length) t := by
  induction raws generalizing k s with
  | nil => exact ⟨s, rfl, hs⟩
  | cons raw raws ih =>
    obtain ⟨hraw, hrest⟩ := List.forall_mem_cons.1 hraws
    have hexec : exec (.uiTick raw) s = .next ((uiTick raw s).setRes .none) := rfl
    rw [List.map_cons, runAll_next hexec, List.length_cons, Nat.add_comm raws.length, ← Nat.add_assoc]
    exact ih hrest (uiTick_startingUp hn hs hraw)

/-- Settles O57: the ui ticks keep the pins released, so that each of them is one startup tick. -/
theorem startupLength : Obligations.StartupLength := by
  intro c e raws hwf hraws
  have hc := (cfgWf_iff c).1 hwf
  obtain ⟨t, hrun, ht⟩ := runAll_uiTicks hc.startupN hraws (resetOf_startingUp hc e)
  rw [Nat.zero_add] at ht
  refine ⟨t, _, rfl, hrun, ?_, ht.mode⟩
  rw [ht.disp, startupDisp]
  split <;> rfl

end Sys2Proof.Proofs
end
